-- ==== Sys2Proof/Word.lean ====
section
/-! DEFINITION. The character of a lamp link, and the small generic shapes that the part has three or two of: one value per port, one per lamp, one per row. -/

namespace Sys2Proof

/-- One character of a lamp link: eight data bits (R143). -/
abbrev Byte := BitVec 8

/-- The register of the frame check (R145). -/
abbrev CrcWord := BitVec 16

/-- The three lamp link ports (00_scope, R151). -/
inductive Port where
  | vis
  | chs
  | cab
deriving DecidableEq, Repr

/-- The two lamps (00_scope, Geometry). -/
inductive Side where
  | left
  | right
deriving DecidableEq, Repr

/-- The two rows of a lamp, of a bank or of a profile slot (00_scope, Geometry). -/
inductive Row where
  | lower
  | upper
deriving DecidableEq, Repr

/-- The other row: where a row swap puts a logical row (R81). -/
def Row.other : Row → Row
  | .lower => .upper
  | .upper => .lower

/-- One value for each port. -/
structure PerPort (α : Type) where
  vis : α
  chs : α
  cab : α
deriving DecidableEq, Repr

/-- The value of port `p`. -/
def PerPort.get {α : Type} (x : PerPort α) : Port → α
  | .vis => x.vis
  | .chs => x.chs
  | .cab => x.cab

/-- `x` with the value of port `p` replaced. -/
def PerPort.set {α : Type} (x : PerPort α) (p : Port) (a : α) : PerPort α :=
  match p with
  | .vis => { x with vis := a }
  | .chs => { x with chs := a }
  | .cab => { x with cab := a }

/-- `f` applied to the value of every port. -/
def PerPort.map {α β : Type} (f : α → β) (x : PerPort α) : PerPort β :=
  { vis := f x.vis, chs := f x.chs, cab := f x.cab }

/-- One value for each lamp. -/
structure PerSide (α : Type) where
  left : α
  right : α
deriving DecidableEq, Repr

/-- The value of lamp `k`. -/
def PerSide.get {α : Type} (x : PerSide α) : Side → α
  | .left => x.left
  | .right => x.right

/-- `x` with the value of lamp `k` replaced. -/
def PerSide.set {α : Type} (x : PerSide α) (k : Side) (a : α) : PerSide α :=
  match k with
  | .left => { x with left := a }
  | .right => { x with right := a }

/-- `f` applied to the value of every lamp. -/
def PerSide.map {α β : Type} (f : α → β) (x : PerSide α) : PerSide β :=
  { left := f x.left, right := f x.right }

/-- Two rows of `n` values: a bank (48 columns), a lamp's ramp state (48) or a profile slot (80). -/
structure TwoRows (n : Nat) where
  lower : Vector Nat n
  upper : Vector Nat n
deriving DecidableEq, Repr

/-- The row `r` of a pair of rows. -/
def TwoRows.row {n : Nat} (x : TwoRows n) : Row → Vector Nat n
  | .lower => x.lower
  | .upper => x.upper

/-- `x` with its row `r` replaced. -/
def TwoRows.setRow {n : Nat} (x : TwoRows n) (r : Row) (v : Vector Nat n) : TwoRows n :=
  match r with
  | .lower => { x with lower := v }
  | .upper => { x with upper := v }

/-- Both rows 0 at every column. -/
def TwoRows.zero (n : Nat) : TwoRows n :=
  { lower := Vector.replicate n 0, upper := Vector.replicate n 0 }

end Sys2Proof
end

