-- ==== Sys2Proof/Config.lean ====
section
/-! DEFINITION. What is fixed for the part: the parameter table (R171) with its ranges and defaults, the bounds of the part's counters, and the free values that the manual leaves open. -/

namespace Sys2Proof

/-- The twenty configuration parameters (R171). -/
inductive Param where
  | framePeriod
  | visTimeout
  | chsTimeout
  | cabTimeout
  | holdFrames
  | fadeStep
  | riseStep
  | swivelGain
  | swivelRate
  | swivelMinSpeed
  | townOn
  | townOff
  | encoderEnable
  | encoderMode
  | encoderScale
  | encoderLimit
  | disagreeLimit
  | disagreeFrames
  | overrunLimit
  | flashLevel
deriving DecidableEq, Repr

namespace Config

/-- The least value of a parameter (R171). -/
def paramMin : Param → Nat
  | .framePeriod => 5
  | .visTimeout => 50
  | .chsTimeout => 20
  | .cabTimeout => 100
  | .holdFrames => 0
  | .fadeStep => 1
  | .riseStep => 1
  | .swivelGain => 0
  | .swivelRate => 1
  | .swivelMinSpeed => 0
  | .townOn => 0
  | .townOff => 0
  | .encoderEnable => 0
  | .encoderMode => 0
  | .encoderScale => 0
  | .encoderLimit => 1
  | .disagreeLimit => 10
  | .disagreeFrames => 1
  | .overrunLimit => 1
  | .flashLevel => 0

/-- The greatest value of a parameter (R171). -/
def paramMax : Param → Nat
  | .framePeriod => 40
  | .visTimeout => 1000
  | .chsTimeout => 500
  | .cabTimeout => 5000
  | .holdFrames => 255
  | .fadeStep => 255
  | .riseStep => 1023
  | .swivelGain => 255
  | .swivelRate => 16
  | .swivelMinSpeed => 1500
  | .townOn => 1500
  | .townOff => 1500
  | .encoderEnable => 1
  | .encoderMode => 3
  | .encoderScale => 255
  | .encoderLimit => 32767
  | .disagreeLimit => 900
  | .disagreeFrames => 100
  | .overrunLimit => 20
  | .flashLevel => 1023

/-- The default of a parameter, its value after a hard reset (R171). -/
def paramDefault : Param → Nat
  | .framePeriod => 10
  | .visTimeout => 200
  | .chsTimeout => 100
  | .cabTimeout => 1000
  | .holdFrames => 30
  | .fadeStep => 16
  | .riseStep => 32
  | .swivelGain => 41
  | .swivelRate => 2
  | .swivelMinSpeed => 50
  | .townOn => 450
  | .townOff => 550
  | .encoderEnable => 0
  | .encoderMode => 2
  | .encoderScale => 64
  | .encoderLimit => 20000
  | .disagreeLimit => 300
  | .disagreeFrames => 10
  | .overrunLimit => 5
  | .flashLevel => 1023

/-- Where a 16-bit event counter stops (R16, R32, R68, R149, R150). -/
def counterMax : Nat := 65535

/-- The count of the Encoder Decoder at the index (R31, R32). -/
def encoderCentre : Nat := 32768

/-- A captured count further than this from the centre is a slip (R32). -/
def slipTolerance : Nat := 16

/-- The Shade Table's capacity (R2). -/
def tableCapacity : Nat := 16

/-- The capacity of a port's reply queue (R150, R152). -/
def queueCapacity : Nat := 2

/-- FREE VALUE. At a frame start the Supervisor may answer the Composition Engine's request for the level before, between or after the reports it takes with that frame start (R70, R120, R123): the manual fixes no order. Read by `Machine.pickLevel`. Assumption 5. -/
opaque levelOrder : Nat → Nat

/-- FREE VALUE. Whether the Supervisor takes the report of a VIS change only with the frame start that comes with it: the merge and the recomputation need no order between them (R154, R176). Read by `Machine.State.reportVisChange`. Assumption 5. -/
opaque visReportWaits : Nat → Bool

/-- FREE VALUE. Where the report of a VIS change that comes with a frame start falls among the steering query's two (R123, R176). Read by `Machine.State.visReportPlace`. Assumption 5. -/
opaque visReportOrder : Nat → Nat

/-- FREE VALUE. Which owners a STATUS_READ reads only after the event that comes with it, by the owner's number (R142). Read by `Machine.State.ownersRead`. Assumption 9. -/
opaque readAfterNext : Nat → Nat → Bool

/-- FREE VALUE. How many segments of a lamp disabled during a composition that composition counted as rise-limited: stage 8 may have used the ramp state from before the disable or after it, and the discard may take the segment out of the count (R80, R85). Read by `Machine.State.limitedShare`. Assumption 6. -/
opaque discardedRiseLimited : Nat → Nat

/-- FREE VALUE. Whether the flags that a completion raises come after the clearing of the sticky sets by the RESTART that is the next command (R86, R140). Read by `Machine.State.flagsOutlasting`. Assumption 24. -/
opaque flagsOutlastRestart : Nat → Bool

/-- FREE VALUE. Whether an expiry of the tell-tale's phase timer that stands right after a change of pattern is that of the blink which the change replaced (R131). Read by `Machine.State.expireTellPhase`. Assumption 25. -/
opaque expiryOfReplaced : Nat → Bool

/-- FREE VALUE. Whether the line was high for a whole character time, after the end of BOOT, before the start bit of a character (R146). Read by `Machine.State.takeCharacterReading`. Assumption 26. -/
opaque lineWasQuiet : Nat → Bool

end Config

end Sys2Proof
end

