-- ==== Sys2Proof/Syntax.lean ====
section
/-! DEFINITION. The commands of the part: one constructor for each row of spec/opcode_table.json. A request row is the event that completes a well-formed request frame of its kind on a port (R146, R150); the other rows are the part's own events and the edges on its lines. -/

namespace Sys2Proof

/-- The two quadrature lines of the steering encoder (R31). -/
inductive EncoderLine where
  | a
  | b
deriving DecidableEq, Repr

/-- An edge on a line. -/
inductive Edge where
  | rising
  | falling
deriving DecidableEq, Repr

/-- The commands. `port` is the link a frame or a character arrives on, `tag` the frame's TAG and `payload` its payload characters in the order sent (R144). RUN_CONTROL and STATUS_CLEAR are one KIND each and several rows: the row fixes the first payload character and `rest` holds the characters after it, none in a frame of the LEN its kind allows (R158). -/
inductive Instr where
  /-- SHADE_LIST (R5). -/
  | shadeList (port : Port) (tag : Byte) (payload : List Byte)
  /-- MOTION (R27). -/
  | motion (port : Port) (tag : Byte) (payload : List Byte)
  /-- MODE (R94). -/
  | mode (port : Port) (tag : Byte) (payload : List Byte)
  /-- RUN_CONTROL with command code 1 (R168). -/
  | start (port : Port) (tag : Byte) (rest : List Byte)
  /-- RUN_CONTROL with command code 2 (R169). -/
  | stop (port : Port) (tag : Byte) (rest : List Byte)
  /-- RUN_CONTROL with command code 3 (R170). -/
  | restart (port : Port) (tag : Byte) (rest : List Byte)
  /-- CONFIG_WRITE (R172). -/
  | configWrite (port : Port) (tag : Byte) (payload : List Byte)
  /-- LAMP_CONTROL (R114). -/
  | lampControl (port : Port) (tag : Byte) (payload : List Byte)
  /-- RECIPE_WRITE (R59). -/
  | recipeWrite (port : Port) (tag : Byte) (payload : List Byte)
  /-- PROFILE_OPEN (R51). -/
  | profileOpen (port : Port) (tag : Byte) (payload : List Byte)
  /-- PROFILE_DATA (R52). -/
  | profileData (port : Port) (tag : Byte) (payload : List Byte)
  /-- PROFILE_CLOSE (R54). -/
  | profileClose (port : Port) (tag : Byte) (payload : List Byte)
  /-- STATUS_READ (R142). -/
  | statusRead (port : Port) (tag : Byte) (payload : List Byte)
  /-- STATUS_CLEAR with option 1, FLAGS (R141). -/
  | statusClearFlags (port : Port) (tag : Byte) (rest : List Byte)
  /-- STATUS_CLEAR with option 2, FLAGS_AND_COUNTERS (R141). -/
  | statusClearFlagsAndCounters (port : Port) (tag : Byte) (rest : List Byte)
  /-- SHADE_READ (R23). -/
  | shadeRead (port : Port) (tag : Byte) (payload : List Byte)
  /-- FRAME_READ (R87). -/
  | frameRead (port : Port) (tag : Byte) (payload : List Byte)
  /-- PROFILE_READ (R56). -/
  | profileRead (port : Port) (tag : Byte) (payload : List Byte)
  /-- RECIPE_READ (R61). -/
  | recipeRead (port : Port) (tag : Byte) (payload : List Byte)
  /-- CONFIG_READ (R173). -/
  | configRead (port : Port) (tag : Byte) (payload : List Byte)
  /-- NOTICE_READ (R136). -/
  | noticeRead (port : Port) (tag : Byte) (payload : List Byte)
  /-- NOTICE_CONTROL (R137). -/
  | noticeControl (port : Port) (tag : Byte) (payload : List Byte)
  /-- A well-formed frame whose KIND names no request (R151). -/
  | unknownKind (port : Port) (tag kind : Byte) (payload : List Byte)
  /-- A LEN character above 60 (R148). -/
  | lengthFault (port : Port) (len : Byte)
  /-- A second CRC character that fails the frame check (R148). -/
  | crcFault (port : Port) (char : Byte)
  /-- 200 µs without a start bit inside a frame (R147). -/
  | gapTimerExpiry (port : Port)
  /-- The end of the last stop bit of the reply being sent (R152). -/
  | replySent (port : Port)
  /-- The freshness timer of a port runs out (R153, R154). -/
  | freshnessTimerExpiry (port : Port)
  /-- The frame timer expires (R66, R67). -/
  | frameStart
  /-- The composition in flight completes (R82). -/
  | compositionComplete
  /-- The PWM counter arrives at the last state of its down phase (R105). -/
  | terminalCount
  /-- The flash timer reaches 0 (R108). -/
  | flashTimerExpiry
  /-- The internal counter of the Clock Monitor reaches 32 (R124, R125). -/
  | windowClose
  /-- The tell-tale's phase timer expires (R130). -/
  | tellPhaseExpiry
  /-- An edge on ENC_A or ENC_B (R31). -/
  | encoderEdge (line : EncoderLine) (edge : Edge)
  /-- A rising edge on ENC_I (R32). -/
  | indexEvent
  /-- An edge on LOW_REQ (R113). -/
  | lowReqEdge (edge : Edge)
  /-- RESETN falls, or power-on (R166). -/
  | hardReset
  /-- RESETN rises (R128, R166). -/
  | resetnRise
  /-- BOOT ends (R166). -/
  | endOfBoot
  /-- A rising edge on REFCLK (R124). -/
  | refclkEdge
  /-- A complete character on a link (R146). -/
  | characterReceived (port : Port) (char : Byte)
deriving DecidableEq, Repr

/-- A request frame as it leaves the receiver: TAG, KIND and payload (R144). -/
structure Frame where
  tag : Byte
  kind : Byte
  payload : List Byte
deriving DecidableEq, Repr

/-- The longest payload a LEN character can announce (R144). -/
def maxPayload : Nat := 60

end Sys2Proof
end

