-- ==== Sys2Proof/Machine/State.lean ====
section
/-! DEFINITION. The state of the part, block by block, as plain data, and its value after a hard reset. -/

namespace Sys2Proof.Machine

/-! ## Outcomes other than a next state -/

/-- What stops the machine: nothing. The manual gives every command an effect in every state (a refusal of a request is a reply, and a fault of a link is a counter), so no meaning raises a fault. -/
inductive Fault where
deriving DecidableEq, Repr

/-- Why a command is refused by the model. -/
inductive Refusal where
  /-- Raised by an arm of exec for a command that has no meaning yet; safe, since the model then says nothing of it. No arm raises it. -/
  | notModelled (mnemonic : String)
deriving DecidableEq, Repr

/-! ## Device state logic (R166, R171) -/

/-- The device states (R166). -/
inductive Device where
  | boot
  | standby
  | run
deriving DecidableEq, Repr

/-- The twenty parameter values (R171). -/
structure Params where
  framePeriod : Nat
  visTimeout : Nat
  chsTimeout : Nat
  cabTimeout : Nat
  holdFrames : Nat
  fadeStep : Nat
  riseStep : Nat
  swivelGain : Nat
  swivelRate : Nat
  swivelMinSpeed : Nat
  townOn : Nat
  townOff : Nat
  encoderEnable : Nat
  encoderMode : Nat
  encoderScale : Nat
  encoderLimit : Nat
  disagreeLimit : Nat
  disagreeFrames : Nat
  overrunLimit : Nat
  flashLevel : Nat
deriving DecidableEq, Repr

/-- Every parameter at its default (R171). -/
def Params.default : Params :=
  { framePeriod := Config.paramDefault .framePeriod
    visTimeout := Config.paramDefault .visTimeout
    chsTimeout := Config.paramDefault .chsTimeout
    cabTimeout := Config.paramDefault .cabTimeout
    holdFrames := Config.paramDefault .holdFrames
    fadeStep := Config.paramDefault .fadeStep
    riseStep := Config.paramDefault .riseStep
    swivelGain := Config.paramDefault .swivelGain
    swivelRate := Config.paramDefault .swivelRate
    swivelMinSpeed := Config.paramDefault .swivelMinSpeed
    townOn := Config.paramDefault .townOn
    townOff := Config.paramDefault .townOff
    encoderEnable := Config.paramDefault .encoderEnable
    encoderMode := Config.paramDefault .encoderMode
    encoderScale := Config.paramDefault .encoderScale
    encoderLimit := Config.paramDefault .encoderLimit
    disagreeLimit := Config.paramDefault .disagreeLimit
    disagreeFrames := Config.paramDefault .disagreeFrames
    overrunLimit := Config.paramDefault .overrunLimit
    flashLevel := Config.paramDefault .flashLevel }

/-! ## Shade Manager (R1, R2, R16, R21) -/

/-- The rows a shade darkens (R1). -/
inductive ShadeRows where
  | upper
  | both
deriving DecidableEq, Repr

/-- The lamps a shade darkens (R1). -/
inductive ShadeLamps where
  | left
  | right
  | both
deriving DecidableEq, Repr

/-- The kinds of road user (R1). -/
inductive RoadClass where
  | oncoming
  | preceding
  | sign
deriving DecidableEq, Repr

/-- The states of a shade entry (R1). -/
inductive ShadeState where
  | active
  | hold
  | fading
deriving DecidableEq, Repr

/-- A shade entry (R1). -/
structure ShadeEntry where
  id : Nat
  aliases : List Nat
  left : Int
  right : Int
  rows : ShadeRows
  lamps : ShadeLamps
  cls : RoadClass
  v : Nat
  state : ShadeState
  hold : Nat
  veff : Nat
deriving DecidableEq, Repr

/-- The Shade Manager: the table in table order, TRAFFIC of the last snapshot and the two counters (R2, R16, R21). -/
structure ShadeManager where
  table : List ShadeEntry
  traffic : Bool
  ignored : Nat
  coalesced : Nat
deriving DecidableEq, Repr

/-! ## Steering Unit (R25, R26, R31, R37, R42) -/

/-- The Motion Latch (R26). -/
structure MotionLatch where
  steer : Int
  speed : Nat
  reverse : Bool
  valid : Bool
deriving DecidableEq, Repr

/-- The states of the Encoder Decoder (R32, R33). -/
inductive DecoderState where
  | unreferenced
  | referenced
  | faulted
deriving DecidableEq, Repr

/-- The steering sources (R37). -/
inductive Source where
  | none
  | chassis
  | encoder
deriving DecidableEq, Repr

/-- The Steering Unit. `encA` and `encB` are the levels of the two encoder lines, which an edge is taken with (R31). -/
structure Steering where
  latch : MotionLatch
  town : Bool
  count : Nat
  decoder : DecoderState
  slips : Nat
  disagreeRun : Nat
  agreeRun : Nat
  disagree : Bool
  source : Source
  encA : Bool
  encB : Bool
deriving DecidableEq, Repr

/-! ## Pattern Memory (R48, R49, R57) -/

/-- One value for each of the three road flags a layer's condition names (R57, R58). -/
structure RoadFlags where
  traffic : Bool
  weather : Bool
  town : Bool
deriving DecidableEq, Repr

/-- How a layer's contribution meets the base (R57, R76). -/
inductive LayerOp where
  | max
  | add
  | cut
deriving DecidableEq, Repr

/-- A layer of the Recipe Table (R57). -/
structure Layer where
  enabled : Bool
  slot : Nat
  mask : RoadFlags
  value : RoadFlags
  op : LayerOp
  weight : Nat
deriving DecidableEq, Repr

/-- A layer after a hard reset (R57). -/
def Layer.reset : Layer :=
  { enabled := false
    slot := 0
    mask := { traffic := false, weather := false, town := false }
    value := { traffic := false, weather := false, town := false }
    op := .max
    weight := 0 }

/-- An open edit session (R49). -/
structure Session where
  slot : Nat
  row : Row
  pointer : Nat
  endMark : Bool
deriving DecidableEq, Repr

/-- Pattern Memory: the Profile Store's four slots, the eight layers and the edit session, none while CLOSED (R48, R49, R57). -/
structure PatternMemory where
  store : Vector (TwoRows 80) 4
  layers : Vector Layer 8
  session : Option Session
deriving DecidableEq, Repr

/-! ## Beam Control (R90) -/

/-- The beam modes (R90). -/
inductive BeamMode where
  | off
  | low
  | auto
  | high
deriving DecidableEq, Repr

/-- The flash request: NONE, START with its duration in units of 10 ms, or CANCEL (R90, R98). -/
inductive FlashRequest where
  | none
  | start (duration : Nat)
  | cancel
deriving DecidableEq, Repr

/-- Beam Control (R90). -/
structure Beam where
  mode : BeamMode
  trim : Nat
  weather : Bool
  flash : FlashRequest
deriving DecidableEq, Repr

/-! ## Supervisor (R118, R119, R124, R129, R130) -/

/-- The degradation levels (R118). -/
inductive Level where
  | normal
  | reduced
  | basic
  | safe
deriving DecidableEq, Repr

/-- The states of the Clock Monitor (R125). -/
inductive ClockState where
  | unknown
  | ref
  | limp
deriving DecidableEq, Repr

/-- The Clock Monitor. `internalCount` is the internal counter as the last event left it: it grows with time alone, and its arrival at 32 is the command WINDOW_CLOSE (R124, R125). -/
structure ClockMonitor where
  refCount : Nat
  internalCount : Nat
  state : ClockState
  goodRun : Nat
deriving DecidableEq, Repr

/-- The tell-tale patterns (R129). -/
inductive TellPattern where
  | off
  | slow
  | fast
  | steady
deriving DecidableEq, Repr

/-- The tell-tale driver. `firstOn`: the first ON phase since the change to the shown blink has not ended. `timer`: the half the phase timer was last loaded with, in ms, none while stopped (R130). `replaced`: a change has replaced a blink and an expiry of the phase timer is the next command, which may be that of the replaced blink (R131). -/
structure TellDriver where
  requested : TellPattern
  shown : TellPattern
  phaseOn : Bool
  firstOn : Bool
  timer : Option Nat
  replaced : Bool
deriving DecidableEq, Repr

/-- The Supervisor without the notice nodes, which stand with their ports: the level, the safe latch, the input records, the Clock Monitor and the tell-tale driver (R118, R119). -/
structure Supervisor where
  level : Level
  safeLatch : Bool
  recDevice : Device
  recVisFresh : Bool
  recSource : Source
  recDisagree : Bool
  clock : ClockMonitor
  tell : TellDriver
deriving DecidableEq, Repr

/-! ## Composition Engine (R66 to R71) -/

/-- The settings of one lamp that a composition latches (R71), and whether the lamp has been disabled since (R85). -/
structure LatchedLamp where
  composed : Bool
  colReverse : Bool
  rowSwap : Bool
  discarded : Bool
deriving DecidableEq, Repr

/-- The latched inputs of the composition in flight (R70, R71). `profiles` holds the slots that an enabled layer of the copy names (R63). -/
structure Latched where
  snapshot : List ShadeEntry
  flags : RoadFlags
  target : Int
  clip : Bool
  mode : BeamMode
  trim : Nat
  layers : Vector Layer 8
  profiles : Vector (Option (TwoRows 80)) 4
  level : Level
  riseStep : Nat
  swivelRate : Nat
  lamps : PerSide LatchedLamp
deriving DecidableEq, Repr

/-- The Composition Engine. `timer` is the period the frame timer was last loaded with, in ms, none while stopped. `flight` is none while IDLE and the latched inputs while COMPOSING (R66, R67, R70). -/
structure Engine where
  timer : Option Nat
  flight : Option Latched
  swivel : Int
  ramp : PerSide (TwoRows 48)
  frameCount : Nat
  repeatCount : Nat
  consecRepeats : Nat
  addSat : Bool
  swivelClip : Bool
  riseLimited : Nat
deriving DecidableEq, Repr

/-! ## Output Stage (R102, R106, R107, R114) -/

/-- A lamp's fallback (R111). -/
inductive Fallback where
  | retain
  | dark
  | limp
deriving DecidableEq, Repr

/-- The two banks of a lamp (R102). -/
inductive BankId where
  | a
  | b
deriving DecidableEq, Repr

/-- The states of a shadow bank (R106). -/
inductive ShadowState where
  | empty
  | filling
  | complete
deriving DecidableEq, Repr

/-- A bank: its compare values by physical row and column, and its placement record, the row swap under which it was written (R102). -/
structure Bank where
  values : TwoRows 48
  placement : Bool
deriving DecidableEq, Repr

/-- One lamp of the Output Stage: its settings, its banks, which is active, and the state of the other (R102, R106, R114). -/
structure Lamp where
  enabled : Bool
  fallback : Fallback
  colReverse : Bool
  rowSwap : Bool
  active : BankId
  bankA : Bank
  bankB : Bank
  shadow : ShadowState
deriving DecidableEq, Repr

/-- The flash one-shot: in SHOWING, with the duration its timer was loaded with, in units of 10 ms (R107). -/
inductive OneShot where
  | idle
  | showing (duration : Nat)
  | expired
deriving DecidableEq, Repr

/-- The Output Stage. `pwmState` numbers the 2046 states of the PWM counter's cycle as the last event left it (R103). `cycleFlashLevel` is the flash_level read for the present cycle (R105, R109). `lowReq` is the level of the LOW_REQ line (R113). -/
structure Output where
  lamps : PerSide Lamp
  pwmState : Nat
  flash : OneShot
  cycleFlashLevel : Nat
  lowReq : Bool
deriving DecidableEq, Repr

/-! ## Link Ports and notice nodes (R133, R140, R146, R150, R153) -/

/-- The receiver: the manual's states HUNT, HEADER, PAYLOAD and CHECK with the part of the frame taken so far (R146). The three header constructors are HEADER with none, one and two characters taken, the two check constructors CHECK with none and one. -/
inductive Receiver where
  | hunt
  | headerTag
  | headerKind (tag : Byte)
  | headerLen (tag kind : Byte)
  | payload (tag kind : Byte) (taken : List Byte) (left : Nat)
  | checkHigh (tag kind : Byte) (taken : List Byte)
  | checkLow (tag kind : Byte) (taken : List Byte) (high : Byte)
deriving DecidableEq, Repr

/-- A reply in the reply queue (R152). -/
structure Reply where
  tag : Byte
  kind : Byte
  payload : List Byte
deriving DecidableEq, Repr

/-- The six sticky flags (R140). -/
structure Sticky where
  addSat : Bool
  swivelClip : Bool
  inputClamp : Bool
  coalesced : Bool
  objIgnored : Bool
  profileTrunc : Bool
deriving DecidableEq, Repr

/-- No flag set. -/
def Sticky.clear : Sticky :=
  { addSat := false, swivelClip := false, inputClamp := false
    coalesced := false, objIgnored := false, profileTrunc := false }

/-- The eight notices, in node order (R133). -/
inductive Notice where
  | level
  | stale
  | shade
  | repeated
  | clock
  | steer
  | edit
  | restart
deriving DecidableEq, Repr

/-- A notice node (R133). -/
structure Node where
  pending : Bool
  priority : Nat
deriving DecidableEq, Repr

/-- The count of R152 over a port's well-formed frames since the last hard reset: a record of the MODEL's own beside the manual's counters, which STATUS_CLEAR can set to 0. -/
structure Tally where
  received : Nat
  sent : Nat
  dropped : Nat
deriving DecidableEq, Repr

/-- One port: receiver and gap timer, whether the receiver still waits for a quiet line after BOOT (`settling`, R146), request slot, reply queue, error counters, freshness, sticky set and notice nodes. `freshTimer` is the timeout the freshness timer was last loaded with, in ms, none while stopped (R150, R153). -/
structure PortState where
  receiver : Receiver
  gapTimer : Bool
  settling : Bool
  slot : Option Frame
  replies : List Reply
  gapErrors : Nat
  lengthErrors : Nat
  crcErrors : Nat
  dropped : Nat
  fresh : Bool
  freshTimer : Option Nat
  sticky : Sticky
  nodes : Vector Node 8
  tally : Tally
deriving DecidableEq, Repr

/-! ## The whole part -/

/-- The state of the part. `resetn` is the level of the RESETN line. `restartFlags` are the flags that a completion has raised together with the RESTART that is the next command, and that the RESTART's clearing leaves set (R86, R140). `pending` is the queue of the commands that wait, first in, first out. `choices` counts the free values used so far. -/
structure State where
  device : Device
  resetn : Bool
  params : Params
  shades : ShadeManager
  steering : Steering
  patterns : PatternMemory
  beam : Beam
  engine : Engine
  output : Output
  supervisor : Supervisor
  ports : PerPort PortState
  restartFlags : Sticky
  pending : List Instr
  choices : Nat
deriving DecidableEq, Repr

/-! ## Reset values -/

/-- The Shade Manager after a hard reset (R24). -/
def ShadeManager.reset : ShadeManager :=
  { table := [], traffic := false, ignored := 0, coalesced := 0 }

/-- The Motion Latch after a hard reset or RESTART (R26). -/
def MotionLatch.reset : MotionLatch :=
  { steer := 0, speed := 0, reverse := false, valid := false }

/-- The Steering Unit after a hard reset (R47). -/
def Steering.reset : Steering :=
  { latch := MotionLatch.reset
    town := false
    count := Config.encoderCentre
    decoder := .unreferenced
    slips := 0
    disagreeRun := 0
    agreeRun := 0
    disagree := false
    source := .none
    encA := false
    encB := false }

/-- Pattern Memory after a hard reset (R48, R49, R57). -/
def PatternMemory.reset : PatternMemory :=
  { store := Vector.replicate 4 (TwoRows.zero 80)
    layers := Vector.replicate 8 Layer.reset
    session := none }

/-- Beam Control after a hard reset (R90). -/
def Beam.reset : Beam :=
  { mode := .off, trim := 63, weather := false, flash := .none }

/-- The Composition Engine after a hard reset (R88). -/
def Engine.reset : Engine :=
  { timer := none
    flight := none
    swivel := 0
    ramp := { left := TwoRows.zero 48, right := TwoRows.zero 48 }
    frameCount := 0
    repeatCount := 0
    consecRepeats := 0
    addSat := false
    swivelClip := false
    riseLimited := 0 }

/-- A bank of zeros under the row swap `swap` (R102). -/
def Bank.zero (swap : Bool) : Bank :=
  { values := TwoRows.zero 48, placement := swap }

/-- A lamp after a hard reset (R102, R106, R114). -/
def Lamp.reset : Lamp :=
  { enabled := true
    fallback := .limp
    colReverse := false
    rowSwap := false
    active := .a
    bankA := Bank.zero false
    bankB := Bank.zero false
    shadow := .empty }

/-- The Output Stage after a hard reset (6.7). -/
def Output.reset : Output :=
  { lamps := { left := Lamp.reset, right := Lamp.reset }
    pwmState := 0
    flash := .idle
    cycleFlashLevel := Config.paramDefault .flashLevel
    lowReq := false }

/-- The Clock Monitor after a hard reset (R128). -/
def ClockMonitor.reset : ClockMonitor :=
  { refCount := 0, internalCount := 0, state := .unknown, goodRun := 0 }

/-- The tell-tale driver after a hard reset (R131, R132). -/
def TellDriver.reset : TellDriver :=
  { requested := .steady, shown := .steady, phaseOn := true, firstOn := false, timer := none
    replaced := false }

/-- The Supervisor after a hard reset (R132). -/
def Supervisor.reset : Supervisor :=
  { level := .safe
    safeLatch := false
    recDevice := .boot
    recVisFresh := false
    recSource := .none
    recDisagree := false
    clock := ClockMonitor.reset
    tell := TellDriver.reset }

/-- A port's notice nodes after a hard reset: RESTART pending at priority 1, every other node clear at priority 0 (R139). -/
def resetNodes : Vector Node 8 :=
  #v[⟨false, 0⟩, ⟨false, 0⟩, ⟨false, 0⟩, ⟨false, 0⟩, ⟨false, 0⟩, ⟨false, 0⟩, ⟨false, 0⟩, ⟨true, 1⟩]

/-- A port after a hard reset (R156). -/
def PortState.reset : PortState :=
  { receiver := .hunt
    gapTimer := false
    settling := false
    slot := none
    replies := []
    gapErrors := 0
    lengthErrors := 0
    crcErrors := 0
    dropped := 0
    fresh := false
    freshTimer := none
    sticky := Sticky.clear
    nodes := resetNodes
    tally := { received := 0, sent := 0, dropped := 0 } }

/-- The part right after a hard reset, with RESETN still low (R166). -/
def State.reset : State :=
  { device := .boot
    resetn := false
    params := Params.default
    shades := ShadeManager.reset
    steering := Steering.reset
    patterns := PatternMemory.reset
    beam := Beam.reset
    engine := Engine.reset
    output := Output.reset
    supervisor := Supervisor.reset
    ports := { vis := PortState.reset, chs := PortState.reset, cab := PortState.reset }
    restartFlags := Sticky.clear
    pending := []
    choices := 0 }

end Sys2Proof.Machine
end

