-- ==== Sys2Proof/Machine/Operands.lean ====
section
/-! DEFINITION. The payload fields of requests and replies: encodings (R157), code tables (R157, R159, R163) and the records that a payload carries (R160, R162, R163, R165). -/

namespace Sys2Proof.Machine

/-! ## Characters and fields (R157) -/

/-- The `width` bits of a character from bit `low` upward, as a number (R157). -/
def bitField (c : Byte) (low width : Nat) : Nat := c.toNat / 2 ^ low % 2 ^ width

/-- Bit `i` of a character (R157). -/
def bitAt (c : Byte) (i : Nat) : Bool := bitField c i 1 == 1

/-- The value of an unsigned two-character field, high byte first (R157). -/
def unsigned16 (hi lo : Byte) : Nat := hi.toNat * 256 + lo.toNat

/-- The value of a signed two-character field in two's complement (R157). -/
def signed16 (hi lo : Byte) : Int :=
  if unsigned16 hi lo < 32768 then (unsigned16 hi lo : Int) else (unsigned16 hi lo : Int) - 65536

/-- The value of a signed one-character field in two's complement (R157). -/
def signed8 (c : Byte) : Int :=
  if c.toNat < 128 then (c.toNat : Int) else (c.toNat : Int) - 256

/-- An unsigned one-character field. -/
def encode8 (n : Nat) : Byte := BitVec.ofNat 8 n

/-- An unsigned two-character field, high byte first (R157). -/
def encode16 (n : Nat) : List Byte := [BitVec.ofNat 8 (n / 256), BitVec.ofNat 8 n]

/-- A signed one-character field in two's complement (R157). -/
def encodeInt8 (i : Int) : Byte := BitVec.ofInt 8 i

/-- A signed two-character field in two's complement (R157). -/
def encodeInt16 (i : Int) : List Byte := encode16 (i % 65536).toNat

/-- 1 for set, 0 for clear. -/
def flagBit (b : Bool) : Nat := if b then 1 else 0

/-! ## Result codes (R159) -/

/-- The results of a reply (R159). -/
inductive Result where
  | ok
  | okClamped
  | okPartial
  | refusedPort
  | refusedState
  | refusedInUse
  | refusedSessionOpen
  | refusedNoSession
  | refusedValue
  | refusedFormat
  | unknownKind
deriving DecidableEq, Repr

/-- The result character (R159). -/
def Result.code : Result → Byte
  | .ok => 0x00
  | .okClamped => 0x01
  | .okPartial => 0x02
  | .refusedPort => 0x10
  | .refusedState => 0x11
  | .refusedInUse => 0x12
  | .refusedSessionOpen => 0x13
  | .refusedNoSession => 0x14
  | .refusedValue => 0x15
  | .refusedFormat => 0x16
  | .unknownKind => 0x17

/-! ## Code tables (R157, R162, R163) -/

/-- The row that a row code names (R157). -/
def rowOfCode (n : Nat) : Option Row :=
  match n with
  | 0 => some .lower
  | 1 => some .upper
  | _ => none

/-- The code of a row (R157). -/
def rowCode : Row → Nat
  | .lower => 0
  | .upper => 1

/-- The lamps that a lamp code names (R157). -/
def lampsOfCode (n : Nat) : Option ShadeLamps :=
  match n with
  | 1 => some .left
  | 2 => some .right
  | 3 => some .both
  | _ => none

/-- The code of a choice of lamps (R157). -/
def lampsCode : ShadeLamps → Nat
  | .left => 1
  | .right => 2
  | .both => 3

/-- The one lamp that a lamp code names, none for BOTH or no lamp (R165). -/
def sideOfCode (n : Nat) : Option Side :=
  match n with
  | 1 => some .left
  | 2 => some .right
  | _ => none

/-- The code of a lamp (R157). -/
def sideCode : Side → Nat
  | .left => 1
  | .right => 2

/-- Whether a choice of lamps includes the lamp `k`. -/
def ShadeLamps.includes (l : ShadeLamps) (k : Side) : Bool :=
  match l, k with
  | .left, .left => true
  | .left, .right => false
  | .right, .left => false
  | .right, .right => true
  | .both, _ => true

/-- The fallback that a fallback code names (R157). -/
def fallbackOfCode (n : Nat) : Option Fallback :=
  match n with
  | 0 => some .retain
  | 1 => some .dark
  | 2 => some .limp
  | _ => none

/-- The code of a fallback (R157). -/
def fallbackCode : Fallback → Nat
  | .retain => 0
  | .dark => 1
  | .limp => 2

/-- The beam mode that a mode code names, none for the codes 4 to 7 (R95, R157). -/
def modeOfCode (n : Nat) : Option BeamMode :=
  match n with
  | 0 => some .off
  | 1 => some .low
  | 2 => some .auto
  | 3 => some .high
  | _ => none

/-- The code of a beam mode (R157). -/
def modeCode : BeamMode → Nat
  | .off => 0
  | .low => 1
  | .auto => 2
  | .high => 3

/-- The code of a level (R157). -/
def levelCode : Level → Nat
  | .normal => 0
  | .reduced => 1
  | .basic => 2
  | .safe => 3

/-- The code of a steering source (R157). -/
def sourceCode : Source → Nat
  | .none => 0
  | .chassis => 1
  | .encoder => 2

/-- The code of a decoder state (R157). -/
def decoderCode : DecoderState → Nat
  | .unreferenced => 0
  | .referenced => 1
  | .faulted => 2

/-- The code of a clock state (R157). -/
def clockCode : ClockState → Nat
  | .unknown => 0
  | .ref => 1
  | .limp => 2

/-- The code of a shade state (R157). -/
def shadeStateCode : ShadeState → Nat
  | .active => 0
  | .hold => 1
  | .fading => 2

/-- The code of a shadow state (R157). -/
def shadowCode : ShadowState → Nat
  | .empty => 0
  | .filling => 1
  | .complete => 2

/-- The code of a bank (R163). -/
def bankCode : BankId → Nat
  | .a => 0
  | .b => 1

/-- The code of a device state; BOOT is never reported (R163, R166). -/
def deviceCode : Device → Nat
  | .boot => 0
  | .standby => 1
  | .run => 2

/-- The rows that a rows code names (R6, R160). -/
def shadeRowsOfBit (b : Bool) : ShadeRows := if b then .both else .upper

/-- The code of a choice of rows (R160). -/
def shadeRowsCode : ShadeRows → Nat
  | .upper => 0
  | .both => 1

/-- The class that a class code names, none for the code 3 (R6, R160). -/
def classOfCode (n : Nat) : Option RoadClass :=
  match n with
  | 0 => some .oncoming
  | 1 => some .preceding
  | 2 => some .sign
  | _ => none

/-- The code of a class (R160). -/
def classCode : RoadClass → Nat
  | .oncoming => 0
  | .preceding => 1
  | .sign => 2

/-- The op that an op code names, none for the code 3 (R162). -/
def opOfCode (n : Nat) : Option LayerOp :=
  match n with
  | 0 => some .max
  | 1 => some .add
  | 2 => some .cut
  | _ => none

/-- The code of an op (R162). -/
def opCode : LayerOp → Nat
  | .max => 0
  | .add => 1
  | .cut => 2

/-- The parameter that an id names, none where it names no parameter (R163, R171). -/
def paramOfId (n : Nat) : Option Param :=
  match n with
  | 0x01 => some .framePeriod
  | 0x02 => some .visTimeout
  | 0x03 => some .chsTimeout
  | 0x04 => some .cabTimeout
  | 0x05 => some .holdFrames
  | 0x06 => some .fadeStep
  | 0x07 => some .riseStep
  | 0x08 => some .swivelGain
  | 0x09 => some .swivelRate
  | 0x0B => some .swivelMinSpeed
  | 0x0C => some .townOn
  | 0x0D => some .townOff
  | 0x0E => some .encoderEnable
  | 0x0F => some .encoderMode
  | 0x10 => some .encoderScale
  | 0x11 => some .encoderLimit
  | 0x12 => some .disagreeLimit
  | 0x13 => some .disagreeFrames
  | 0x14 => some .overrunLimit
  | 0x15 => some .flashLevel
  | _ => none

/-! ## Records of a payload -/

/-- A shade object as sent (R160). -/
structure RawObject where
  id : Nat
  left : Int
  width : Nat
  v : Nat
  rowsBit : Bool
  classBits : Nat
  lampBits : Nat
deriving DecidableEq, Repr

/-- The shade objects of a SHADE_LIST payload, in list order (R160). -/
def readObjects : List Byte → List RawObject
  | id :: left :: width :: v :: flags :: rest =>
    { id := id.toNat
      left := signed8 left
      width := width.toNat
      v := v.toNat
      rowsBit := bitAt flags 0
      classBits := bitField flags 1 2
      lampBits := bitField flags 3 2 } :: readObjects rest
  | _ => []

/-- A layer record as sent (R162). -/
structure RawLayer where
  index : Nat
  enabled : Bool
  opBits : Nat
  slot : Nat
  mask : RoadFlags
  value : RoadFlags
  weight : Nat
deriving DecidableEq, Repr

/-- Three road flags from the bits of a character from bit `low` upward: TRAFFIC, WEATHER, TOWN (R162). -/
def readRoadFlags (c : Byte) (low : Nat) : RoadFlags :=
  { traffic := bitAt c low, weather := bitAt c (low + 1), town := bitAt c (low + 2) }

/-- The number that three road flags make: bit 0 TRAFFIC, bit 1 WEATHER, bit 2 TOWN (R162). -/
def roadFlagsCode (f : RoadFlags) : Nat :=
  flagBit f.traffic + 2 * flagBit f.weather + 4 * flagBit f.town

/-- The layer records of a RECIPE_WRITE payload, in request order (R162). -/
def readLayers : List Byte → List RawLayer
  | index :: control :: slot :: condition :: weight :: rest =>
    { index := index.toNat
      enabled := bitAt control 0
      opBits := bitField control 1 2
      slot := slot.toNat
      mask := readRoadFlags condition 0
      value := readRoadFlags condition 4
      weight := weight.toNat } :: readLayers rest
  | _ => []

/-- The 5-character record of layer `index` in a RECIPE_READ reply (R162). -/
def encodeLayer (index : Nat) (l : Layer) : List Byte :=
  [ encode8 index
  , encode8 (flagBit l.enabled + 2 * opCode l.op)
  , encode8 l.slot
  , encode8 (roadFlagsCode l.mask + 16 * roadFlagsCode l.value)
  , encode8 l.weight ]

/-- The pairs of a CONFIG_WRITE payload, in request order: a parameter id and a value (R163). -/
def readPairs : List Byte → List (Nat × Nat)
  | id :: hi :: lo :: rest => (id.toNat, unsigned16 hi lo) :: readPairs rest
  | _ => []

/-- The 12 characters of an entry in a SHADE_READ reply (R165). -/
def encodeEntry (e : ShadeEntry) : List Byte :=
  [encode8 e.id, encodeInt8 e.left] ++ encodeInt16 e.right ++
  [ encode8 (shadeRowsCode e.rows + 2 * classCode e.cls + 8 * lampsCode e.lamps
      + 32 * shadeStateCode e.state)
  , encode8 e.v
  , encode8 e.veff
  , encode8 e.hold
  , encode8 e.aliases.length
  , encode8 (e.aliases.getD 0 0)
  , encode8 (e.aliases.getD 1 0)
  , encode8 (e.aliases.getD 2 0) ]

/-- The settings character of a lamp: bit 0 enable, bit 1 column reverse, bit 2 row swap (R163). -/
def encodeSettings (l : Lamp) : Byte :=
  encode8 (flagBit l.enabled + 2 * flagBit l.colReverse + 4 * flagBit l.rowSwap)

/-- The four characters of a lamp in a LAMP_CONTROL reply (R163). -/
def encodeLamp (l : Lamp) : List Byte :=
  [encodeSettings l, encode8 (fallbackCode l.fallback), encode8 (bankCode l.active),
    encode8 (shadowCode l.shadow)]

/-- The sticky set byte (R157). -/
def encodeSticky (f : Sticky) : Byte :=
  encode8 (flagBit f.addSat + 2 * flagBit f.swivelClip + 4 * flagBit f.inputClamp
    + 8 * flagBit f.coalesced + 16 * flagBit f.objIgnored + 32 * flagBit f.profileTrunc)

/-- The command code and the duration of a flash request in a MODE reply (R161). -/
def encodeFlash : FlashRequest → List Byte
  | .none => [0, 0]
  | .start d => [1, encode8 d]
  | .cancel => [2, 0]

/-- The two session characters of a STATUS_READ reply, 0 while CLOSED (R164). -/
def encodeSession : Option Session → List Byte
  | none => [0, 0]
  | some x =>
    [encode8 (1 + 2 * flagBit x.endMark + 4 * x.slot + 16 * rowCode x.row), encode8 x.pointer]

end Sys2Proof.Machine
end

