-- ==== Sys2Proof/Machine/Flags.lean ====
section
/-! DEFINITION. The marks that events leave for the controllers: notice nodes and notice lines (R133 to R135), sticky flags (R140) and the saturating event counters. -/

namespace Sys2Proof.Machine

/-- An event counter one higher, staying at its bound (R16, R32, R68, R149, R150). -/
def bump (bound n : Nat) : Nat := min bound (n + 1)

/-- An event counter `k` higher, staying at its bound. -/
def bumpBy (bound k n : Nat) : Nat := min bound (n + k)

/-! ## Notice nodes -/

/-- The number of a notice node (R133). -/
def Notice.number : Notice → Fin 8
  | .level => 0
  | .stale => 1
  | .shade => 2
  | .repeated => 3
  | .clock => 4
  | .steer => 5
  | .edit => 6
  | .restart => 7

/-- A port with its node `n` pending (R134). -/
def PortState.setPending (n : Notice) (p : PortState) : PortState :=
  { p with nodes := p.nodes.set n.number { p.nodes[n.number] with pending := true } }

/-- An event of R133: its node becomes pending on all three ports (R134). -/
def State.notify (n : Notice) (s : State) : State :=
  { s with ports := s.ports.map (PortState.setPending n) }

/-- Whether a port's notice line is asserted: a node is pending with priority 1 or more (R135). -/
def PortState.lineAsserted (p : PortState) : Bool :=
  p.nodes.toList.any fun n => n.pending && decide (1 ≤ n.priority)

/-- The level of a port's notice line, VIS_NTC, CHS_NTC or CAB_NTC: active low, so low while asserted and high otherwise (R135). -/
def State.noticePin (s : State) (p : Port) : Bool := !(s.ports.get p).lineAsserted

/-- The node set byte of the nodes that are pending (R157). -/
def pendingByte (nodes : Vector Node 8) : Byte :=
  encode8 (flagBit nodes[0].pending + 2 * flagBit nodes[1].pending + 4 * flagBit nodes[2].pending
    + 8 * flagBit nodes[3].pending + 16 * flagBit nodes[4].pending + 32 * flagBit nodes[5].pending
    + 64 * flagBit nodes[6].pending + 128 * flagBit nodes[7].pending)

/-! ## Sticky flags -/

/-- The flags set in either set (R140). -/
def Sticky.union (a b : Sticky) : Sticky :=
  { addSat := a.addSat || b.addSat
    swivelClip := a.swivelClip || b.swivelClip
    inputClamp := a.inputClamp || b.inputClamp
    coalesced := a.coalesced || b.coalesced
    objIgnored := a.objIgnored || b.objIgnored
    profileTrunc := a.profileTrunc || b.profileTrunc }

/-- A raising of the flags `f`: they are set in the sticky sets of all three ports (R140). -/
def State.raise (f : Sticky) (s : State) : State :=
  { s with ports := s.ports.map fun p => { p with sticky := p.sticky.union f } }

/-- INPUT_CLAMP alone, where `b` (R140). -/
def clampFlag (b : Bool) : Sticky := { Sticky.clear with inputClamp := b }

end Sys2Proof.Machine
end

