-- ==== Sys2Proof/Machine/Ops.lean ====
section
/-! DEFINITION. The named reads and writes of the state: parameters, ports, the Profile Store, layers, lamps and banks. -/

namespace Sys2Proof.Machine

/-! ## Parameters (R171) -/

/-- The present value of a parameter (R171, R173). -/
def Params.get (x : Params) : Param → Nat
  | .framePeriod => x.framePeriod
  | .visTimeout => x.visTimeout
  | .chsTimeout => x.chsTimeout
  | .cabTimeout => x.cabTimeout
  | .holdFrames => x.holdFrames
  | .fadeStep => x.fadeStep
  | .riseStep => x.riseStep
  | .swivelGain => x.swivelGain
  | .swivelRate => x.swivelRate
  | .swivelMinSpeed => x.swivelMinSpeed
  | .townOn => x.townOn
  | .townOff => x.townOff
  | .encoderEnable => x.encoderEnable
  | .encoderMode => x.encoderMode
  | .encoderScale => x.encoderScale
  | .encoderLimit => x.encoderLimit
  | .disagreeLimit => x.disagreeLimit
  | .disagreeFrames => x.disagreeFrames
  | .overrunLimit => x.overrunLimit
  | .flashLevel => x.flashLevel

/-- The parameters with one value replaced (R172). -/
def Params.set (x : Params) (p : Param) (n : Nat) : Params :=
  match p with
  | .framePeriod => { x with framePeriod := n }
  | .visTimeout => { x with visTimeout := n }
  | .chsTimeout => { x with chsTimeout := n }
  | .cabTimeout => { x with cabTimeout := n }
  | .holdFrames => { x with holdFrames := n }
  | .fadeStep => { x with fadeStep := n }
  | .riseStep => { x with riseStep := n }
  | .swivelGain => { x with swivelGain := n }
  | .swivelRate => { x with swivelRate := n }
  | .swivelMinSpeed => { x with swivelMinSpeed := n }
  | .townOn => { x with townOn := n }
  | .townOff => { x with townOff := n }
  | .encoderEnable => { x with encoderEnable := n }
  | .encoderMode => { x with encoderMode := n }
  | .encoderScale => { x with encoderScale := n }
  | .encoderLimit => { x with encoderLimit := n }
  | .disagreeLimit => { x with disagreeLimit := n }
  | .disagreeFrames => { x with disagreeFrames := n }
  | .overrunLimit => { x with overrunLimit := n }
  | .flashLevel => { x with flashLevel := n }

/-- A value brought into a parameter's range (R172). -/
def clampParam (p : Param) (n : Nat) : Nat :=
  max (Config.paramMin p) (min (Config.paramMax p) n)

/-- The freshness timeout of a port, in ms (R153). -/
def Params.timeout (x : Params) : Port → Nat
  | .vis => x.visTimeout
  | .chs => x.chsTimeout
  | .cab => x.cabTimeout

/-! ## Ports -/

/-- Port `p` with `f` applied to it. -/
def State.onPort (p : Port) (f : PortState → PortState) (s : State) : State :=
  { s with ports := s.ports.set p (f (s.ports.get p)) }

/-! ## Pattern Memory -/

/-- Both rows of a profile slot (R48). -/
def PatternMemory.slotRows (m : PatternMemory) (slot : Nat) : TwoRows 80 :=
  (m.store[slot]?).getD (TwoRows.zero 80)

/-- The Profile Store with one row of one slot replaced (R52). -/
def PatternMemory.setRow (m : PatternMemory) (slot : Nat) (r : Row) (v : Vector Nat 80) :
    PatternMemory :=
  { m with store := m.store.setIfInBounds slot ((m.slotRows slot).setRow r v) }

/-- Whether an enabled layer names the slot (R50). -/
def PatternMemory.slotInUse (m : PatternMemory) (slot : Nat) : Bool :=
  m.layers.toList.any fun l => l.enabled && l.slot == slot

/-- The number of enabled layers (R64). -/
def PatternMemory.enabledCount (m : PatternMemory) : Nat :=
  m.layers.toList.countP fun l => l.enabled

/-! ## Lamps and banks -/

/-- The other bank of a lamp's pair (R102). -/
def BankId.other : BankId → BankId
  | .a => .b
  | .b => .a

/-- A bank of a lamp (R102). -/
def Lamp.bank (l : Lamp) : BankId → Bank
  | .a => l.bankA
  | .b => l.bankB

/-- A lamp with one bank replaced (R102). -/
def Lamp.setBank (l : Lamp) (which : BankId) (x : Bank) : Lamp :=
  match which with
  | .a => { l with bankA := x }
  | .b => { l with bankB := x }

/-- The active bank (R102). -/
def Lamp.activeBank (l : Lamp) : Bank := l.bank l.active

/-- The shadow bank (R102). -/
def Lamp.shadowBank (l : Lamp) : Bank := l.bank l.active.other

/-- A lamp with its shadow bank replaced (R102). -/
def Lamp.setShadowBank (l : Lamp) (x : Bank) : Lamp := l.setBank l.active.other x

/-- Both banks zeros under the lamp's row swap, the shadow EMPTY: what STOP, RESTART and a lamp disable make of the banks (R102, R106, R115). -/
def Lamp.darkened (l : Lamp) : Lamp :=
  { l with bankA := Bank.zero l.rowSwap, bankB := Bank.zero l.rowSwap, shadow := .empty }

/-- Lamp `k` with `f` applied to it. -/
def State.onLamp (k : Side) (f : Lamp → Lamp) (s : State) : State :=
  { s with output := { s.output with lamps := s.output.lamps.set k (f (s.output.lamps.get k)) } }

end Sys2Proof.Machine
end

