-- ==== Sys2Proof/Machine/BeamControl.lean ====
section
/-! DEFINITION. Beam Control: the MODE request (R94 to R98) and the CAB stale event (R100). -/

namespace Sys2Proof.Machine

/-- WEATHER after a weather effect code: KEEP, SET, CLEAR, TOGGLE (R93, R161). -/
def weatherAfter (code : Nat) (w : Bool) : Bool :=
  match code with
  | 0 => w
  | 1 => true
  | 2 => false
  | _ => !w

/-- What a flash command leaves of the flash request, and how it counts toward the result (R97). -/
structure FlashOutcome where
  request : FlashRequest
  ignored : Bool
  clamped : Bool
deriving DecidableEq, Repr

/-- Whether a flash START is taken: in RUN at a level other than SAFE (R97). -/
def State.flashAllowed (s : State) : Bool :=
  decide (s.device = .run) && decide (s.supervisor.level ≠ .safe)

/-- A flash command applied to the flash request: code 0 NONE, 1 START, 2 CANCEL, 3 ignored (R97, R98). -/
def State.applyFlash (s : State) (code duration : Nat) : FlashOutcome :=
  match code with
  | 0 => { request := s.beam.flash, ignored := false, clamped := false }
  | 1 =>
    if duration = 0 ∨ s.flashAllowed = false then
      { request := s.beam.flash, ignored := true, clamped := false }
    else
      { request := .start (min 200 duration), ignored := false, clamped := decide (200 < duration) }
  | 2 => { request := .cancel, ignored := false, clamped := false }
  | _ => { request := s.beam.flash, ignored := true, clamped := false }

/-- The owner's answer to MODE: all four fields applied as one event (R94 to R97, R161). -/
def State.serveMode (payload : List Byte) (s : State) : State × List Byte :=
  match payload with
  | [c, trim, duration] =>
    let mode := modeOfCode (bitField c 0 3)
    let flash := s.applyFlash (bitField c 5 2) duration.toNat
    let beam : Beam :=
      { mode := mode.getD s.beam.mode
        trim := min 63 trim.toNat
        weather := weatherAfter (bitField c 3 2) s.beam.weather
        flash := flash.request }
    let clamped := decide (63 < trim.toNat) || flash.clamped
    let result : Result :=
      if mode.isNone || flash.ignored then .okPartial else if clamped then .okClamped else .ok
    ({ s with beam := beam }.raise (clampFlag clamped),
      [result.code, encode8 (modeCode beam.mode), encode8 beam.trim, encode8 (flagBit beam.weather)]
        ++ encodeFlash beam.flash)
  | _ => (s, [Result.refusedFormat.code])

/-- The CAB stale event at Beam Control: a mode of HIGH is lowered to AUTO (R100). -/
def State.lowerBeam (s : State) : State :=
  if s.beam.mode = .high then { s with beam := { s.beam with mode := .auto } } else s

end Sys2Proof.Machine
end

