-- ==== Sys2Proof/Decode.lean ====
section
/-! DEFINITION. The KIND codes of request frames with their ports and lengths (R158), the frame each request row stands for, and the table decoder. The opcode table gives its rows no bits, so the table decoder answers none. -/

namespace Sys2Proof

/-- The request kinds (R158). -/
inductive RequestKind where
  | shadeList
  | motion
  | mode
  | runControl
  | configWrite
  | lampControl
  | recipeWrite
  | profileOpen
  | profileData
  | profileClose
  | statusRead
  | statusClear
  | shadeRead
  | frameRead
  | profileRead
  | recipeRead
  | configRead
  | noticeRead
  | noticeControl
deriving DecidableEq, Repr

/-- The KIND character of a request kind (R158). -/
def RequestKind.code : RequestKind → Byte
  | .shadeList => 0x01
  | .motion => 0x02
  | .mode => 0x03
  | .runControl => 0x04
  | .configWrite => 0x05
  | .lampControl => 0x06
  | .recipeWrite => 0x07
  | .profileOpen => 0x08
  | .profileData => 0x09
  | .profileClose => 0x0A
  | .statusRead => 0x10
  | .statusClear => 0x11
  | .shadeRead => 0x12
  | .frameRead => 0x13
  | .profileRead => 0x14
  | .recipeRead => 0x15
  | .configRead => 0x16
  | .noticeRead => 0x17
  | .noticeControl => 0x18

/-- The request kind that a KIND character names, none where it names no request (R158). -/
def RequestKind.ofCode (kind : Byte) : Option RequestKind :=
  match kind.toNat with
  | 0x01 => some .shadeList
  | 0x02 => some .motion
  | 0x03 => some .mode
  | 0x04 => some .runControl
  | 0x05 => some .configWrite
  | 0x06 => some .lampControl
  | 0x07 => some .recipeWrite
  | 0x08 => some .profileOpen
  | 0x09 => some .profileData
  | 0x0A => some .profileClose
  | 0x10 => some .statusRead
  | 0x11 => some .statusClear
  | 0x12 => some .shadeRead
  | 0x13 => some .frameRead
  | 0x14 => some .profileRead
  | 0x15 => some .recipeRead
  | 0x16 => some .configRead
  | 0x17 => some .noticeRead
  | 0x18 => some .noticeControl
  | _ => none

/-- The ports on which a kind is permitted: the second dispatch check (R151, R158). -/
def RequestKind.permitted (k : RequestKind) (p : Port) : Bool :=
  match k with
  | .shadeList => p == .vis
  | .motion => p == .chs
  | .mode => p == .cab
  | .runControl => p == .cab
  | .configWrite => p == .cab
  | .lampControl => p == .cab
  | .recipeWrite => p == .cab
  | .profileOpen => p == .cab
  | .profileData => p == .cab
  | .profileClose => p == .cab
  | .statusRead => true
  | .statusClear => true
  | .shadeRead => true
  | .frameRead => true
  | .profileRead => true
  | .recipeRead => true
  | .configRead => true
  | .noticeRead => true
  | .noticeControl => true

/-- The LEN values that a kind allows: the third dispatch check (R151, R158). -/
def RequestKind.lenAllowed (k : RequestKind) (n : Nat) : Bool :=
  match k with
  | .shadeList => n % 5 == 0 && decide (n ≤ 60)
  | .motion => n == 5
  | .mode => n == 3
  | .runControl => n == 1
  | .configWrite => n % 3 == 0 && decide (3 ≤ n) && decide (n ≤ 30)
  | .lampControl => n == 3
  | .recipeWrite => n % 5 == 0 && decide (5 ≤ n) && decide (n ≤ 40)
  | .profileOpen => n == 3
  | .profileData => decide (1 ≤ n) && decide (n ≤ 60)
  | .profileClose => n == 0
  | .statusRead => n == 0
  | .statusClear => n == 1
  | .shadeRead => n == 2
  | .frameRead => n == 4
  | .profileRead => n == 4
  | .recipeRead => n == 0
  | .configRead => decide (1 ≤ n) && decide (n ≤ 10)
  | .noticeRead => n == 0
  | .noticeControl => n == 10

/-- The port and the frame that a request row stands for; none for the rows that are no request (R144, R158). -/
def requestFrame (i : Instr) : Option (Port × Frame) :=
  match i with
  | .shadeList p t pl => some (p, ⟨t, RequestKind.shadeList.code, pl⟩)
  | .motion p t pl => some (p, ⟨t, RequestKind.motion.code, pl⟩)
  | .mode p t pl => some (p, ⟨t, RequestKind.mode.code, pl⟩)
  | .start p t rest => some (p, ⟨t, RequestKind.runControl.code, 1 :: rest⟩)
  | .stop p t rest => some (p, ⟨t, RequestKind.runControl.code, 2 :: rest⟩)
  | .restart p t rest => some (p, ⟨t, RequestKind.runControl.code, 3 :: rest⟩)
  | .configWrite p t pl => some (p, ⟨t, RequestKind.configWrite.code, pl⟩)
  | .lampControl p t pl => some (p, ⟨t, RequestKind.lampControl.code, pl⟩)
  | .recipeWrite p t pl => some (p, ⟨t, RequestKind.recipeWrite.code, pl⟩)
  | .profileOpen p t pl => some (p, ⟨t, RequestKind.profileOpen.code, pl⟩)
  | .profileData p t pl => some (p, ⟨t, RequestKind.profileData.code, pl⟩)
  | .profileClose p t pl => some (p, ⟨t, RequestKind.profileClose.code, pl⟩)
  | .statusRead p t pl => some (p, ⟨t, RequestKind.statusRead.code, pl⟩)
  | .statusClearFlags p t rest => some (p, ⟨t, RequestKind.statusClear.code, 1 :: rest⟩)
  | .statusClearFlagsAndCounters p t rest => some (p, ⟨t, RequestKind.statusClear.code, 2 :: rest⟩)
  | .shadeRead p t pl => some (p, ⟨t, RequestKind.shadeRead.code, pl⟩)
  | .frameRead p t pl => some (p, ⟨t, RequestKind.frameRead.code, pl⟩)
  | .profileRead p t pl => some (p, ⟨t, RequestKind.profileRead.code, pl⟩)
  | .recipeRead p t pl => some (p, ⟨t, RequestKind.recipeRead.code, pl⟩)
  | .configRead p t pl => some (p, ⟨t, RequestKind.configRead.code, pl⟩)
  | .noticeRead p t pl => some (p, ⟨t, RequestKind.noticeRead.code, pl⟩)
  | .noticeControl p t pl => some (p, ⟨t, RequestKind.noticeControl.code, pl⟩)
  | .unknownKind p t kind pl => some (p, ⟨t, kind, pl⟩)
  | .lengthFault _ _ => none
  | .crcFault _ _ => none
  | .gapTimerExpiry _ => none
  | .replySent _ => none
  | .freshnessTimerExpiry _ => none
  | .frameStart => none
  | .compositionComplete => none
  | .terminalCount => none
  | .flashTimerExpiry => none
  | .windowClose => none
  | .tellPhaseExpiry => none
  | .encoderEdge _ _ => none
  | .indexEvent => none
  | .lowReqEdge _ => none
  | .hardReset => none
  | .resetnRise => none
  | .endOfBoot => none
  | .refclkEdge => none
  | .characterReceived _ _ => none

/-- The command that a word of the opcode table spells: the table gives no row any bits, so none (98_reader). -/
def decodeTableWord (_nbits _w : Nat) : Option Instr := none

end Sys2Proof
end

