-- ==== Sys2Proof/Machine/Frames.lean ====
section
/-! DEFINITION. Link frames with their CRC (R144, R145), the places of a reply queue (R150), and which commands complete a frame or change the freshness of the VIS port: what an event needs to know of the one that comes with it. -/

namespace Sys2Proof.Machine

/-! ## Frames and the CRC -/

/-- The SYNC character (R144). -/
def syncChar : Byte := 0xC3

/-- One bit of the CRC (R145). -/
def crcBit (r : CrcWord) (bit : Bool) : CrcWord :=
  if (r.getLsbD 15) != bit then (r <<< 1) ^^^ 0x1021 else r <<< 1

/-- One character of the CRC, most significant bit first (R145). -/
def crcChar (r : CrcWord) (c : Byte) : CrcWord :=
  [7, 6, 5, 4, 3, 2, 1, 0].foldl (fun r i => crcBit r (c.getLsbD i)) r

/-- The CRC register after characters, from 0xFFFF (R145). -/
def crcOf (cs : List Byte) : CrcWord := cs.foldl crcChar 0xFFFF

/-- The characters of a frame that its CRC covers: TAG, KIND, LEN and payload (R144). -/
def frameBody (f : Frame) : List Byte := f.tag :: f.kind :: encode8 f.payload.length :: f.payload

/-- The two CRC characters of a frame, high byte first (R144). -/
def frameCrc (f : Frame) : List Byte := encode16 (crcOf (frameBody f)).toNat

/-- A frame as characters on the wire (R144). -/
def wireFrame (f : Frame) : List Byte := syncChar :: frameBody f ++ frameCrc f

/-- The receiver's check of a frame with the two CRC characters it received: the register ends at 0 (R145, R148). -/
def crcPasses (f : Frame) (high low : Byte) : Bool := crcOf (frameBody f ++ [high, low]) == 0

/-! ## The reply queue -/

/-- The places of a port's reply queue that are held, by the replies in it and by the reply of the request in the slot (R150). -/
def PortState.places (p : PortState) : Nat :=
  p.replies.length + if p.slot.isSome then 1 else 0

/-! ## Events that come together

Two events that come together stand next to each other in the queue. The order of the two commands gives the order of their effects at an owner that both reach; where each reaches several owners, the first of the two looks at the second for what it needs of it (R86, R142, R176, assumption 9). -/

/-- The frame that a command completes on a port: a request row's own, or the one whose last character it is (R146). -/
def State.completedFrame (s : State) (c : Instr) : Option (Port × Frame) :=
  match requestFrame c, c with
  | some x, _ => some x
  | none, .characterReceived p char =>
    match (s.ports.get p).receiver with
    | .checkLow tag kind taken high =>
      if (s.ports.get p).settling = false ∧
          crcPasses { tag := tag, kind := kind, payload := taken } high char = true then
        some (p, { tag := tag, kind := kind, payload := taken })
      else none
    | _ => none
  | none, _ => none

/-- The kind of a frame that reaches its owner: taken out of BOOT, with a place in the reply queue free, and past the three dispatch checks (R150, R151). -/
def State.kindReached (s : State) (p : Port) (f : Frame) : Option RequestKind :=
  if s.device = .boot ∨ Config.queueCapacity ≤ (s.ports.get p).places then none
  else
    (RequestKind.ofCode f.kind).filter fun k => k.permitted p && k.lenAllowed f.payload.length

/-- The freshness to which a command changes the VIS port, none where it changes none (R153, R154). -/
def State.visChange (s : State) (c : Instr) : Option Bool :=
  match s.completedFrame c, c with
  | some (p, f), _ =>
    if s.ports.vis.fresh = false ∧ s.kindReached p f = some .shadeList then some true else none
  | none, .freshnessTimerExpiry .vis => if s.ports.vis.fresh = true then some false else none
  | none, _ => none

/-- The freshness to which the next command changes the VIS port, none where it changes none. -/
def State.nextVisChange (s : State) : Option Bool := s.pending.head?.bind s.visChange

/-- Whether the next command is a RESTART that reaches its owner (R167). -/
def State.restartNext (s : State) : Bool :=
  match s.pending.head?.bind s.completedFrame with
  | some (p, f) => decide (s.kindReached p f = some .runControl ∧ f.payload = [3])
  | none => false

/-- Whether the next command is a frame start that begins a composition (R67). -/
def State.compositionNext (s : State) : Bool :=
  decide (s.pending.head? = some .frameStart) && s.engine.timer.isSome && s.engine.flight.isNone

end Sys2Proof.Machine
end

