-- ==== Sys2Proof/Machine/PatternMemory.lean ====
section
/-! DEFINITION. Pattern Memory: the edit session (R49 to R55), profile reads (R56), the Recipe Table (R57 to R61) and the recipe copy (R63). -/

namespace Sys2Proof.Machine

/-! ## The edit session -/

/-- The checks of PROFILE_OPEN in their order; the row where all pass, else the refusal (R51). -/
def State.checkOpen (s : State) (slot rowCode : Nat) : Except Result Row :=
  match rowOfCode rowCode with
  | none => .error .refusedValue
  | some r =>
    if 3 < slot then .error .refusedValue
    else if s.ports.cab.fresh = false then .error .refusedState
    else if s.patterns.session.isSome = true then .error .refusedSessionOpen
    else if s.patterns.slotInUse slot = true then .error .refusedInUse
    else .ok r

/-- The owner's answer to PROFILE_OPEN (R51, R162). -/
def State.serveProfileOpen (payload : List Byte) (s : State) : State × List Byte :=
  match payload with
  | [slot, rowC, column] =>
    match s.checkOpen slot.toNat rowC.toNat with
    | .error r => (s, [r.code])
    | .ok r =>
      let pointer := min 79 column.toNat
      let clamped := decide (79 < column.toNat)
      let session : Session := { slot := slot.toNat, row := r, pointer := pointer, endMark := false }
      let s1 := { s with patterns := { s.patterns with session := some session } }
      ((s1.raise (clampFlag clamped)).notify .edit,
        [(if clamped then Result.okClamped else Result.ok).code, encode8 pointer])
  | _ => (s, [Result.refusedFormat.code])

/-- What the values of a PROFILE_DATA leave: the row, the pointer, the end mark and how many were written. -/
structure RowWrite where
  row : Vector Nat 80
  pointer : Nat
  endMark : Bool
  written : Nat
deriving DecidableEq, Repr

/-- The values written in order from the pointer until none is left or column 79 is written (R52, R53). -/
def writeValues : List Byte → RowWrite → RowWrite
  | [], w => w
  | b :: rest, w =>
    if w.endMark then w
    else
      writeValues rest
        { row := w.row.setIfInBounds w.pointer b.toNat
          pointer := if w.pointer < 79 then w.pointer + 1 else w.pointer
          endMark := decide (79 ≤ w.pointer)
          written := w.written + 1 }

/-- The owner's answer to PROFILE_DATA (R52, R53, R162). -/
def State.serveProfileData (payload : List Byte) (s : State) : State × List Byte :=
  match s.patterns.session with
  | none => (s, [Result.refusedNoSession.code])
  | some x =>
    let w :=
      writeValues payload
        { row := (s.patterns.slotRows x.slot).row x.row
          pointer := x.pointer
          endMark := x.endMark
          written := 0 }
    let truncated := decide (w.written < payload.length)
    let s1 :=
      { s with
        patterns :=
          { s.patterns.setRow x.slot x.row w.row with
            session := some { x with pointer := w.pointer, endMark := w.endMark } } }
    (s1.raise { Sticky.clear with profileTrunc := truncated },
      [(if truncated then Result.okPartial else Result.ok).code, encode8 w.written,
        encode8 w.pointer, encode8 (flagBit w.endMark)])

/-- An open session closed with EDIT raised; nothing where none is open (R54, R55). -/
def State.closeSession (s : State) : State :=
  match s.patterns.session with
  | none => s
  | some _ => { s with patterns := { s.patterns with session := none } }.notify .edit

/-- The owner's answer to PROFILE_CLOSE (R54, R162). -/
def State.serveProfileClose (s : State) : State × List Byte :=
  match s.patterns.session with
  | none => (s, [Result.refusedNoSession.code])
  | some _ => (s.closeSession, [Result.ok.code])

/-! ## Reading profiles (R56) -/

/-- The part of a row of values that a read returns: from `first`, up to `count` and `most`, and not past the end (R56, R87). -/
def readRun {n : Nat} (row : Vector Nat n) (first count most : Nat) : List Nat :=
  (row.toList.drop first).take (min most count)

/-- The owner's answer to PROFILE_READ (R56, R162). -/
def State.serveProfileRead (payload : List Byte) (s : State) : State × List Byte :=
  match payload with
  | [slot, rowC, column, count] =>
    match rowOfCode rowC.toNat with
    | none => (s, [Result.refusedValue.code])
    | some r =>
      if 3 < slot.toNat then (s, [Result.refusedValue.code])
      else
        let run := readRun ((s.patterns.slotRows slot.toNat).row r) column.toNat count.toNat 24
        (s, [Result.ok.code, slot, rowC, column, encode8 run.length] ++ run.map encode8)
  | _ => (s, [Result.refusedFormat.code])

/-! ## The Recipe Table -/

/-- The layer that a record writes, its weight clamped; none where the op code names no op (R59, R60). -/
def RawLayer.layer (r : RawLayer) : Option Layer :=
  (opOfCode r.opBits).map fun op =>
    { enabled := r.enabled
      slot := r.slot
      mask := r.mask
      value := r.value
      op := op
      weight := min 128 r.weight }

/-- The records with their layers, none where a record carries a value that refuses the request. `seen` holds the indexes of the earlier records (R59). -/
def checkRecords (seen : List Nat) : List RawLayer → Option (List (Nat × Layer))
  | [] => some []
  | r :: rest =>
    if 7 < r.index ∨ r.index ∈ seen ∨ 3 < r.slot then none
    else
      match r.layer, checkRecords (r.index :: seen) rest with
      | some l, some ls => some ((r.index, l) :: ls)
      | _, _ => none

/-- Whether a layer would be enabled on the slot of the open session (R50, R59). -/
def sessionBars (session : Option Session) (l : Layer) : Bool :=
  match session with
  | none => false
  | some x => l.enabled && l.slot == x.slot

/-- Each record written into the layer of its index (R60). -/
def writeRecords (layers : Vector Layer 8) (rs : List (Nat × Layer)) : Vector Layer 8 :=
  rs.foldl (fun ls r => ls.setIfInBounds r.1 r.2) layers

/-- The owner's answer to RECIPE_WRITE: every record is checked before any is written (R59, R60, R162). -/
def State.serveRecipeWrite (payload : List Byte) (s : State) : State × List Byte :=
  let records := readLayers payload
  match checkRecords [] records with
  | none => (s, [Result.refusedValue.code])
  | some ls =>
    if ls.any (fun r => sessionBars s.patterns.session r.2) = true then
      (s, [Result.refusedInUse.code])
    else
      let clamped := records.any fun r => decide (128 < r.weight)
      let s1 := { s with patterns := { s.patterns with layers := writeRecords s.patterns.layers ls } }
      (s1.raise (clampFlag clamped),
        [(if clamped then Result.okClamped else Result.ok).code, encode8 ls.length])

/-- The owner's answer to RECIPE_READ (R61, R162). -/
def State.serveRecipeRead (s : State) : State × List Byte :=
  (s,
    Result.ok.code ::
      (s.patterns.layers.toList.zipIdx.flatMap fun l => encodeLayer l.2 l.1))

/-! ## What the recipe hands to composition (R63) -/

/-- The profile rows of every slot that an enabled layer names (R63). -/
def PatternMemory.recipeProfiles (m : PatternMemory) : Vector (Option (TwoRows 80)) 4 :=
  Vector.ofFn fun i => if m.slotInUse i.val = true then some (m.slotRows i.val) else none

end Sys2Proof.Machine
end

