-- ==== Sys2Proof/Machine/ShadeTable.lean ====
section
/-! DEFINITION. The Shade Manager: the merge of a shade list (R5 to R17), the VIS stale event (R18), aging and the snapshot (R19 to R22) and SHADE_READ (R23). -/

namespace Sys2Proof.Machine

/-! ## Step 1: validation (R6, R7) -/

/-- A valid object: what step 1 hands on. -/
structure ShadeObject where
  id : Nat
  left : Int
  right : Int
  rows : ShadeRows
  lamps : ShadeLamps
  cls : RoadClass
  v : Nat
deriving DecidableEq, Repr

/-- The valid object that a raw object gives, none where it is ignored. `seen` holds the ids of the earlier objects of the list, valid or ignored (R6, R7). -/
def validateObject (seen : List Nat) (o : RawObject) : Option ShadeObject :=
  if o.id = 0 ∨ o.width = 0 ∨ o.id ∈ seen then none
  else
    match classOfCode o.classBits, lampsOfCode o.lampBits with
    | some cls, some lamps =>
      some
        { id := o.id
          left := o.left
          right := min 128 (o.left + o.width)
          rows := shadeRowsOfBit o.rowsBit
          lamps := lamps
          cls := cls
          v := o.v }
    | _, _ => none

/-- What step 1 finds: the valid objects in list order, how many objects it ignored and whether it clamped a right edge. -/
structure Validation where
  objects : List ShadeObject
  ignored : Nat
  clamped : Bool
deriving DecidableEq, Repr

/-- Step 1 over a list, after the ids `seen` (R6, R7). -/
def validateObjects (seen : List Nat) : List RawObject → Validation
  | [] => { objects := [], ignored := 0, clamped := false }
  | o :: rest =>
    let later := validateObjects (o.id :: seen) rest
    match validateObject seen o with
    | none => { later with ignored := later.ignored + 1 }
    | some x =>
      { later with
        objects := x :: later.objects
        clamped := decide (128 < o.left + o.width) || later.clamped }

/-! ## Taking and combining fields (R8, R9, R14) -/

/-- Rows of two shades combined (R9). -/
def ShadeRows.widen : ShadeRows → ShadeRows → ShadeRows
  | .upper, .upper => .upper
  | _, _ => .both

/-- Lamps of two shades combined (R9). -/
def ShadeLamps.widen : ShadeLamps → ShadeLamps → ShadeLamps
  | .left, .left => .left
  | .right, .right => .right
  | _, _ => .both

/-- Classes of two shades combined (R9). -/
def RoadClass.widen : RoadClass → RoadClass → RoadClass
  | .oncoming, _ => .oncoming
  | _, .oncoming => .oncoming
  | .preceding, _ => .preceding
  | _, .preceding => .preceding
  | .sign, .sign => .sign

/-- A new entry formed from an object (R11). -/
def entryOfObject (holdFrames : Nat) (o : ShadeObject) : ShadeEntry :=
  { id := o.id
    aliases := []
    left := o.left
    right := o.right
    rows := o.rows
    lamps := o.lamps
    cls := o.cls
    v := o.v
    state := .active
    hold := holdFrames
    veff := o.v }

/-- An entry matched for the first time takes the object's fields and keeps its id and alias list (R8). -/
def ShadeEntry.take (holdFrames : Nat) (o : ShadeObject) (e : ShadeEntry) : ShadeEntry :=
  { entryOfObject holdFrames o with id := e.id, aliases := e.aliases }

/-- An entry combined with an object: outer edges, lesser residual, widened rows, lamps and class, ACTIVE with its hold loaded (R9, R14). -/
def ShadeEntry.combine (holdFrames : Nat) (o : ShadeObject) (e : ShadeEntry) : ShadeEntry :=
  { e with
    left := min e.left o.left
    right := max e.right o.right
    rows := e.rows.widen o.rows
    lamps := e.lamps.widen o.lamps
    cls := e.cls.widen o.cls
    v := min e.v o.v
    veff := min e.v o.v
    state := .active
    hold := holdFrames }

/-- An entry into which an object is coalesced: combined, with the object's id recorded while fewer than 3 aliases are held (R14). -/
def ShadeEntry.coalesce (holdFrames : Nat) (o : ShadeObject) (e : ShadeEntry) : ShadeEntry :=
  { e.combine holdFrames o with
    aliases := if e.aliases.length < 3 then e.aliases ++ [o.id] else e.aliases }

/-- Whether an id reaches an entry, as its id or as an alias (R8). -/
def ShadeEntry.reachedBy (id : Nat) (e : ShadeEntry) : Bool :=
  e.id == id || e.aliases.contains id

/-! ## Step 2: matching (R8, R9) -/

/-- An entry in the working order, with whether an object of this list has matched it. -/
structure WorkEntry where
  entry : ShadeEntry
  matched : Bool
deriving DecidableEq, Repr

/-- The first entry that the object's id reaches takes its fields, or is combined with it if it was matched before; none where no entry is reached (R8, R9). -/
def matchObject (holdFrames : Nat) (o : ShadeObject) : List WorkEntry → Option (List WorkEntry)
  | [] => none
  | w :: rest =>
    if w.entry.reachedBy o.id then
      some
        ({ entry := if w.matched then w.entry.combine holdFrames o else w.entry.take holdFrames o
           matched := true } :: rest)
    else (matchObject holdFrames o rest).map (w :: ·)

/-- Step 2 over the valid objects: the working order after it, and the objects left for step 4 in list order (R8, R9). -/
def matchObjects (holdFrames : Nat) : List ShadeObject → List WorkEntry →
    List WorkEntry × List ShadeObject
  | [], ws => (ws, [])
  | o :: rest, ws =>
    match matchObject holdFrames o ws with
    | some ws' => matchObjects holdFrames rest ws'
    | none =>
      let r := matchObjects holdFrames rest ws
      (r.1, o :: r.2)

/-! ## Step 3, and the stale event: entries no longer reported (R10, R18) -/

/-- An entry that enters FADING: Veff is V; removed at that moment if V is 255 (R1). -/
def ShadeEntry.fade (e : ShadeEntry) : Option ShadeEntry :=
  if e.v < 255 then some { e with state := .fading, hold := 0, veff := e.v } else none

/-- An ACTIVE entry no longer reported goes to HOLD, or to FADING if hold_frames is 0 or it is a SIGN; any other entry is kept (R10, R18). -/
def ShadeEntry.release (holdFrames : Nat) (e : ShadeEntry) : Option ShadeEntry :=
  match e.state with
  | .active =>
    if holdFrames = 0 ∨ e.cls = .sign then e.fade
    else some { e with state := .hold, hold := holdFrames, veff := e.v }
  | .hold => some e
  | .fading => some e

/-- Step 3: every entry that no object matched is released (R10). -/
def releaseUnmatched (holdFrames : Nat) (ws : List WorkEntry) : List ShadeEntry :=
  ws.filterMap fun w => if w.matched then some w.entry else w.entry.release holdFrames

/-! ## Step 4: insertion, eviction and coalescing (R11 to R14) -/

/-- The greatest Veff of the FADING entries, none where none is FADING (R12). -/
def greatestFading : List ShadeEntry → Option Nat
  | [] => none
  | e :: rest =>
    match e.state, greatestFading rest with
    | .fading, some n => some (max e.veff n)
    | .fading, none => some e.veff
    | _, r => r

/-- The first FADING entry with Veff `n` is replaced by `x` (R12). -/
def evict (n : Nat) (x : ShadeEntry) : List ShadeEntry → List ShadeEntry
  | [] => []
  | e :: rest => if e.state = .fading ∧ e.veff = n then x :: rest else e :: evict n x rest

/-- The gap between an object and an entry, in azimuth steps (R13). -/
def gap (o : ShadeObject) (e : ShadeEntry) : Nat :=
  (max 0 (max e.left o.left - min e.right o.right)).toNat

/-- The least gap between an object and the entries, none for an empty table (R13). -/
def leastGap (o : ShadeObject) : List ShadeEntry → Option Nat
  | [] => none
  | e :: rest =>
    match leastGap o rest with
    | some n => some (min (gap o e) n)
    | none => some (gap o e)

/-- The object is coalesced into the first entry at gap `n` (R13, R14). -/
def coalesceAt (holdFrames n : Nat) (o : ShadeObject) : List ShadeEntry → List ShadeEntry
  | [] => []
  | e :: rest =>
    if gap o e = n then e.coalesce holdFrames o :: rest else e :: coalesceAt holdFrames n o rest

/-- The working order, and how many objects step 4 inserted and coalesced. -/
structure Placement where
  entries : List ShadeEntry
  inserted : Nat
  coalesced : Nat
deriving DecidableEq, Repr

/-- Step 4 for one object: a new entry while there is room, else in the stead of a FADING entry, else coalesced at the least gap (R11 to R13). -/
def placeObject (holdFrames : Nat) (p : Placement) (o : ShadeObject) : Placement :=
  if p.entries.length < Config.tableCapacity then
    { p with entries := p.entries ++ [entryOfObject holdFrames o], inserted := p.inserted + 1 }
  else
    match greatestFading p.entries with
    | some n =>
      { p with entries := evict n (entryOfObject holdFrames o) p.entries, inserted := p.inserted + 1 }
    | none =>
      { p with
        entries := coalesceAt holdFrames ((leastGap o p.entries).getD 0) o p.entries
        coalesced := p.coalesced + 1 }

/-- Step 4 over the objects left by step 2, in list order. -/
def placeObjects (holdFrames : Nat) (os : List ShadeObject) (es : List ShadeEntry) : Placement :=
  os.foldl (placeObject holdFrames) { entries := es, inserted := 0, coalesced := 0 }

/-! ## Step 5 and the whole merge (R15 to R17) -/

/-- Table order: ascending L, then ascending id (R2). -/
def ShadeEntry.before (a b : ShadeEntry) : Bool :=
  decide (a.left < b.left) || (decide (a.left = b.left) && decide (a.id ≤ b.id))

/-- Step 5: the entries in table order (R15). -/
def sortEntries (es : List ShadeEntry) : List ShadeEntry :=
  es.insertionSort fun a b => a.before b = true

/-- The outcome of a merge: the table, the four counts of the reply and whether an edge was clamped (R15). -/
structure Merge where
  table : List ShadeEntry
  matched : Nat
  inserted : Nat
  coalesced : Nat
  ignored : Nat
  clamped : Bool
deriving DecidableEq, Repr

/-- A shade list merged into a table, in the five steps (R5). -/
def mergeList (holdFrames : Nat) (objects : List RawObject) (table : List ShadeEntry) : Merge :=
  let step1 := validateObjects [] objects
  let step2 := matchObjects holdFrames step1.objects (table.map fun e => ⟨e, false⟩)
  let step4 := placeObjects holdFrames step2.2 (releaseUnmatched holdFrames step2.1)
  { table := sortEntries step4.entries
    matched := step1.objects.length - step2.2.length
    inserted := step4.inserted
    coalesced := step4.coalesced
    ignored := step1.ignored
    clamped := step1.clamped }

/-- The result of a merge (R15). -/
def Merge.result (m : Merge) : Result :=
  if 0 < m.ignored then .okPartial else if m.clamped then .okClamped else .ok

/-- The sticky flags that a merge raises (R16). -/
def Merge.sticky (m : Merge) : Sticky :=
  { Sticky.clear with
    inputClamp := m.clamped
    coalesced := decide (0 < m.coalesced)
    objIgnored := decide (0 < m.ignored) }

/-- A merge taken by the Shade Manager: the table and the counters, the sticky flags, and SHADE where an object was coalesced (R16, R17). -/
def State.applyMerge (m : Merge) (s : State) : State :=
  let s1 :=
    { s with
      shades :=
        { s.shades with
          table := m.table
          ignored := bumpBy Config.counterMax m.ignored s.shades.ignored
          coalesced := bumpBy Config.counterMax m.coalesced s.shades.coalesced } }.raise m.sticky
  if 0 < m.coalesced then s1.notify .shade else s1

/-- The owner's answer to SHADE_LIST: merged in RUN, REFUSED_STATE otherwise (R4, R5, R15, R160). -/
def State.serveShadeList (payload : List Byte) (s : State) : State × List Byte :=
  if s.device = .run then
    let m := mergeList s.params.holdFrames (readObjects payload) s.shades.table
    (s.applyMerge m,
      [m.result.code, encode8 m.matched, encode8 m.inserted, encode8 m.coalesced,
        encode8 m.ignored, encode8 m.table.length])
  else (s, [Result.refusedState.code])

/-! ## Loss of the vision link (R18) -/

/-- The VIS stale event: every ACTIVE entry is released, as if an empty list had arrived (R18). -/
def State.shadesStale (s : State) : State :=
  { s with
    shades :=
      { s.shades with table := s.shades.table.filterMap (ShadeEntry.release s.params.holdFrames) } }

/-! ## Aging and the snapshot (R19 to R21) -/

/-- One entry aged: HOLD counts down and fades at 0; FADING rises and is removed where Veff would reach 255 (R19, R20). -/
def ShadeEntry.age (fadeStep : Nat) (e : ShadeEntry) : Option ShadeEntry :=
  match e.state with
  | .active => some e
  | .hold => if e.hold ≤ 1 then e.fade else some { e with hold := e.hold - 1 }
  | .fading => if 255 ≤ e.veff + fadeStep then none else some { e with veff := e.veff + fadeStep }

/-- The table aged (R19, R20). -/
def ageTable (fadeStep : Nat) (table : List ShadeEntry) : List ShadeEntry :=
  table.filterMap (ShadeEntry.age fadeStep)

/-- TRAFFIC: an entry of class ONCOMING or PRECEDING is in ACTIVE or HOLD (R21). -/
def trafficOf (table : List ShadeEntry) : Bool :=
  table.any fun e => decide (e.cls ≠ .sign) && decide (e.state ≠ .fading)

/-- The snapshot request: the table is aged, TRAFFIC derived and kept, and SHADE raised where TRAFFIC has changed (R17, R19 to R21). -/
def State.serveSnapshot (s : State) : State :=
  let table := ageTable s.params.fadeStep s.shades.table
  let traffic := trafficOf table
  let s1 := { s with shades := { s.shades with table := table, traffic := traffic } }
  if traffic = s.shades.traffic then s1 else s1.notify .shade

/-! ## Reading the table (R23, R165) -/

/-- The entries that SHADE_READ returns (R23). -/
def shadeRun (table : List ShadeEntry) (first count : Nat) : List ShadeEntry :=
  (table.drop first).take (min 4 count)

/-- The owner's answer to SHADE_READ (R23, R165). -/
def State.serveShadeRead (payload : List Byte) (s : State) : State × List Byte :=
  match payload with
  | [first, count] =>
    let run := shadeRun s.shades.table first.toNat count.toNat
    (s,
      [Result.ok.code, encode8 s.shades.table.length, encode8 (flagBit s.shades.traffic), first,
        encode8 run.length] ++ run.flatMap encodeEntry)
  | _ => (s, [Result.refusedFormat.code])

/-! ## Resets (R24) -/

/-- The table emptied and TRAFFIC 0, the counters kept: STOP and RESTART (R24). -/
def ShadeManager.cleared (x : ShadeManager) : ShadeManager :=
  { x with table := [], traffic := false }

end Sys2Proof.Machine
end

