-- ==== Sys2Proof/Machine/Supervisor.lean ====
section
/-! DEFINITION. The Supervisor: the degradation level and its input reports (R118 to R122), the Clock Monitor (R124 to R128) and the tell-tale (R129 to R131). -/

namespace Sys2Proof.Machine

/-! ## The tell-tale -/

/-- The pattern that a level asks for (R129). -/
def patternOfLevel : Level → TellPattern
  | .normal => .off
  | .reduced => .slow
  | .basic => .fast
  | .safe => .steady

/-- The half period of a blink in ms, none for the patterns that do not blink (R129). -/
def blinkHalf : TellPattern → Option Nat
  | .off => none
  | .slow => some 500
  | .fast => some 250
  | .steady => none

/-- Whether a pattern blinks. -/
def TellPattern.blinks (x : TellPattern) : Bool := (blinkHalf x).isSome

/-- The shown pattern becomes `x` at once: a blink in its first ON phase with the ON half loaded, any other pattern with the phase timer stopped (R130). The phase held beside a pattern that does not blink is the model's (assumption 11). `next`: an expiry of the phase timer is the next command, which may then be that of a blink replaced here (R131, assumption 25). -/
def TellDriver.show (t : TellDriver) (next : Bool) (x : TellPattern) : TellDriver :=
  { t with
    shown := x
    phaseOn := decide (x ≠ .off)
    firstOn := x.blinks
    timer := blinkHalf x
    replaced := next && (t.replaced || t.shown.blinks) }

/-- A change of the requested pattern to `x`: it is followed at once, but that a change to OFF in a first ON phase is held, and a change back to the blink being shown ends the hold (R130). `next`: an expiry of the phase timer is the next command (R131). -/
def TellDriver.request (t : TellDriver) (next : Bool) (x : TellPattern) : TellDriver :=
  if x = t.requested then t
  else if x = .off ∧ t.shown.blinks = true ∧ t.firstOn = true then { t with requested := .off }
  else if t.requested = .off ∧ t.shown = x then { t with requested := x }
  else { t with requested := x }.show next x

/-- An expiry of the shown blink's phase timer: a held OFF is taken, else the phase changes and the timer is reloaded; a stopped timer does not expire (R130). -/
def TellDriver.expire (t : TellDriver) : TellDriver :=
  if t.shown.blinks = true then
    if t.requested = .off then t.show false .off
    else { t with phaseOn := !t.phaseOn, firstOn := false, timer := blinkHalf t.shown }
  else t

/-- The level of TELL for a driver: high is lit (R129, R130). -/
def TellDriver.lit (t : TellDriver) : Bool :=
  match t.shown with
  | .off => false
  | .slow => t.phaseOn
  | .fast => t.phaseOn
  | .steady => true

/-- The level of the TELL pin: driven high while RESETN is low (R129). -/
def State.tellPin (s : State) : Bool := !s.resetn || s.supervisor.tell.lit

/-! ## The level -/

/-- The level that the input records give (R118). -/
def Supervisor.computed (x : Supervisor) : Level :=
  if x.recDevice ≠ .run ∨ x.safeLatch = true then .safe
  else if x.recVisFresh = false then .basic
  else if x.recSource ≠ .chassis ∨ x.recDisagree = true ∨ x.clock.state ≠ .ref then .reduced
  else .normal

/-- Whether an expiry of the tell-tale's phase timer is the next command (R131). -/
def State.tellExpiryNext (s : State) : Bool := decide (s.pending.head? = some .tellPhaseExpiry)

/-- The level computed anew: on a change LEVEL is raised and the requested pattern follows (R119, R121). -/
def State.recompute (s : State) : State :=
  if s.supervisor.computed = s.supervisor.level then s
  else
    { s with
      supervisor :=
        { s.supervisor with
          level := s.supervisor.computed
          tell :=
            s.supervisor.tell.request s.tellExpiryNext
              (patternOfLevel s.supervisor.computed) } }.notify .level

/-- A report of the device state; with a stop or restart the safe latch is cleared in the same event (R119, R120, R122). -/
def State.reportDevice (d : Device) (clearLatch : Bool) (s : State) : State :=
  { s with
    supervisor :=
      { s.supervisor with
        recDevice := d
        safeLatch := if clearLatch then false else s.supervisor.safeLatch } }.recompute

/-- A report of the VIS freshness (R119). -/
def State.reportVisFresh (b : Bool) (s : State) : State :=
  { s with supervisor := { s.supervisor with recVisFresh := b } }.recompute

/-- A report of the held steering source (R119). -/
def State.reportSource (x : Source) (s : State) : State :=
  { s with supervisor := { s.supervisor with recSource := x } }.recompute

/-- A report of the agreement of the steering sources (R119). -/
def State.reportDisagree (b : Bool) (s : State) : State :=
  { s with supervisor := { s.supervisor with recDisagree := b } }.recompute

/-- An overrun report: the safe latch is set and the level computed (R122). -/
def State.reportOverrun (s : State) : State :=
  { s with supervisor := { s.supervisor with safeLatch := true } }.recompute

/-! ## The Clock Monitor -/

/-- Where the core clock comes from (R126). -/
inductive CoreClock where
  | reference
  | oscillator
deriving DecidableEq, Repr

/-- The source of the core clock: REFCLK doubled in REF, the internal oscillator in UNKNOWN and LIMP (R126). -/
def ClockMonitor.coreClock (c : ClockMonitor) : CoreClock :=
  match c.state with
  | .unknown => .oscillator
  | .ref => .reference
  | .limp => .oscillator

/-- The state and the good-window run counter after a window whose result is `ran` (R125). -/
def clockAfter (st : ClockState) (run : Nat) (ran : Bool) : ClockState × Nat :=
  match st, ran with
  | .unknown, true => if run = 0 then (.unknown, 1) else (.ref, 0)
  | .unknown, false => (.limp, 0)
  | .ref, true => (.ref, 0)
  | .ref, false => (.limp, 0)
  | .limp, true => if run < 15 then (.limp, run + 1) else (.ref, 0)
  | .limp, false => (.limp, 0)

/-- The Clock Monitor after a window close: "reference ran" is a reference counter of 8, both counters start again (R124, R125). -/
def ClockMonitor.closeWindow (c : ClockMonitor) : ClockMonitor :=
  let next := clockAfter c.state c.goodRun (c.refCount == 8)
  { refCount := 0, internalCount := 0, state := next.1, goodRun := next.2 }

/-- The close of a window. A change of state raises CLOCK and is reported to the level (R125). The windows stand still while RESETN is low (R124). -/
def State.closeWindow (s : State) : State :=
  if s.resetn = false then s
  else
    let c := s.supervisor.clock.closeWindow
    let s1 := { s with supervisor := { s.supervisor with clock := c } }
    if c.state = s.supervisor.clock.state then s1 else (s1.notify .clock).recompute

/-- A rising edge on REFCLK: the reference counter goes up by 1, to 8 at most; it stands at 0 while RESETN is low (R124). -/
def State.countReference (s : State) : State :=
  if s.resetn = false then s
  else
    { s with
      supervisor :=
        { s.supervisor with
          clock := { s.supervisor.clock with refCount := min 8 (s.supervisor.clock.refCount + 1) } } }

/-- The phase timer of the tell-tale expires (R130). Where it stands right after a change that replaced a blink, it may be the expiry of that blink, which has no further effect, or one of the new pattern; which, is a free value (R131, DESIGN CHOICE, assumption 25). -/
def State.expireTellPhase (s : State) : State :=
  let t := s.supervisor.tell
  if t.replaced = true then
    { s with
      supervisor :=
        { s.supervisor with
          tell :=
            { if Config.expiryOfReplaced s.choices = true then t else t.expire with
              replaced := false } }
      choices := s.choices + 1 }
  else { s with supervisor := { s.supervisor with tell := t.expire } }

end Sys2Proof.Machine
end

