-- ==== Sys2Proof/Machine/SteeringUnit.lean ====
section
/-! DEFINITION. The Steering Unit: the Motion Latch and TOWN (R26 to R30), the Encoder Decoder (R31 to R34) and the steering query (R35 to R45). -/

namespace Sys2Proof.Machine

/-! ## Motion (R26 to R29) -/

/-- A signed value brought into −bound to +bound (R27, R34, R40). -/
def clampSigned (bound : Int) (i : Int) : Int := max (-bound) (min bound i)

/-- TOWN after a MOTION arrival with the stored speed (R29). -/
def townAfter (x : Params) (speed : Nat) (town : Bool) : Bool :=
  if speed < x.townOn then true else if x.townOff < speed then false else town

/-- The owner's answer to MOTION: the clamped report is stored and made valid and TOWN updated (R27, R29, R161). -/
def State.serveMotion (payload : List Byte) (s : State) : State × List Byte :=
  match payload with
  | [s1, s0, v1, v0, r] =>
    let steer := clampSigned 7200 (signed16 s1 s0)
    let speed := min 1500 (unsigned16 v1 v0)
    let clamped := decide (steer ≠ signed16 s1 s0) || decide (speed ≠ unsigned16 v1 v0)
    let town := townAfter s.params speed s.steering.town
    let latch : MotionLatch := { steer := steer, speed := speed, reverse := bitAt r 0, valid := true }
    let st := { s with steering := { s.steering with latch := latch, town := town } }
    (st.raise (clampFlag clamped),
      [(if clamped then Result.okClamped else Result.ok).code] ++ encodeInt16 steer ++
        encode16 speed ++ [encode8 (flagBit town)])
  | _ => (s, [Result.refusedFormat.code])

/-- The CHS stale event: the Motion Latch is made invalid (R28). -/
def State.motionStale (s : State) : State :=
  { s with
    steering := { s.steering with latch := { s.steering.latch with valid := false } } }

/-! ## The Encoder Decoder (R31 to R33) -/

/-- The encoder modes (R31). -/
inductive EncoderMode where
  | x1
  | x2
  | x4
  | upDown
deriving DecidableEq, Repr

/-- The encoder mode that encoder_mode holds (R163). -/
def encoderModeOf (n : Nat) : EncoderMode :=
  match n with
  | 0 => .x1
  | 1 => .x2
  | 2 => .x4
  | _ => .upDown

/-- The step of an edge, with the level of the other line as it stands (R31). -/
def edgeStep (mode : EncoderMode) (line : EncoderLine) (edge : Edge) (other : Bool) : Int :=
  match mode, line, edge, other with
  | .upDown, .a, .rising, _ => 1
  | .upDown, .b, .rising, _ => -1
  | .upDown, _, .falling, _ => 0
  | _, .a, .rising, false => 1
  | _, .a, .rising, true => -1
  | .x1, .a, .falling, _ => 0
  | _, .a, .falling, true => 1
  | _, .a, .falling, false => -1
  | .x4, .b, .rising, true => 1
  | .x4, .b, .rising, false => -1
  | .x4, .b, .falling, false => 1
  | .x4, .b, .falling, true => -1
  | _, .b, _, _ => 0

/-- The count after a step, saturating at 0 and 65535 (R31). -/
def countAfter (count : Nat) (step : Int) : Nat := (max 0 (min 65535 ((count : Int) + step))).toNat

/-- The distance of a count from the centre. -/
def centreDistance (count : Nat) : Nat := ((count : Int) - (Config.encoderCentre : Int)).natAbs

/-- A REFERENCED decoder further than encoder_limit from the centre becomes FAULTED (R33). -/
def limitTest (limit : Nat) (x : Steering) : Steering :=
  if x.decoder = .referenced ∧ limit < centreDistance x.count then { x with decoder := .faulted }
  else x

/-- The level of the other line as an edge on `line` finds it (R31). -/
def Steering.otherLine (x : Steering) : EncoderLine → Bool
  | .a => x.encB
  | .b => x.encA

/-- The line takes its new level. -/
def Steering.setLine (x : Steering) (line : EncoderLine) (edge : Edge) : Steering :=
  match line with
  | .a => { x with encA := edge == .rising }
  | .b => { x with encB := edge == .rising }

/-- An edge on ENC_A or ENC_B: counted, and tested against encoder_limit where the count changes; not counted while RESETN is low (R31, R33). -/
def State.encoderEdge (line : EncoderLine) (edge : Edge) (s : State) : State :=
  let x := s.steering
  let moved := x.setLine line edge
  if s.resetn = false then { s with steering := moved }
  else
    let count :=
      countAfter x.count
        (edgeStep (encoderModeOf s.params.encoderMode) line edge (x.otherLine line))
    if count = x.count then { s with steering := moved }
    else { s with steering := limitTest s.params.encoderLimit { moved with count := count } }

/-- The index event: the captured count is tested for slip, the count set to the centre and the decoder referenced (R32). -/
def State.encoderIndex (s : State) : State :=
  if s.resetn = false then s
  else
    let x := s.steering
    let slipped := x.decoder = .referenced ∧ Config.slipTolerance < centreDistance x.count
    { s with
      steering :=
        { x with
          count := Config.encoderCentre
          decoder := .referenced
          slips := if slipped then bump Config.counterMax x.slips else x.slips } }

/-- The encoder steer: the angle that a count stands for (R34). -/
def encoderSteer (scale count : Nat) : Int :=
  clampSigned 7200 ((((count : Int) - (Config.encoderCentre : Int)) * (scale : Int)).tdiv 16)

/-! ## The steering query (R35 to R45) -/

/-- The conditions under which plausibility is evaluated (R42). -/
def State.plausible (s : State) : Bool :=
  s.steering.latch.valid && s.ports.chs.fresh && s.params.encoderEnable == 1 &&
    decide (s.steering.decoder = .referenced)

/-- The two run counters after a comparison (R42). -/
def runsAfter (disagrees : Bool) (x : Steering) : Steering :=
  if disagrees then { x with disagreeRun := bump 255 x.disagreeRun, agreeRun := 0 }
  else { x with agreeRun := bump 255 x.agreeRun, disagreeRun := 0 }

/-- Whether the chassis angle and the encoder angle differ by more than disagree_limit (R42). -/
def State.sourcesDiffer (s : State) : Bool :=
  decide (s.params.disagreeLimit <
    (s.steering.latch.steer - encoderSteer s.params.encoderScale s.steering.count).natAbs)

/-- DISAGREE moved to `b`: both run counters 0, STEER raised, the Supervisor informed (R43, R44). -/
def State.moveDisagree (b : Bool) (s : State) : State :=
  ({ s with
      steering := { s.steering with disagree := b, disagreeRun := 0, agreeRun := 0 } }.notify
    .steer).reportDisagree b

/-- Step 1 of the query: plausibility (R42 to R44). -/
def State.queryPlausibility (s : State) : State :=
  if s.plausible = true then
    let s1 := { s with steering := runsAfter s.sourcesDiffer s.steering }
    if s1.steering.disagree = false ∧ s.params.disagreeFrames ≤ s1.steering.disagreeRun then
      s1.moveDisagree true
    else if s1.steering.disagree = true ∧ s.params.disagreeFrames ≤ s1.steering.agreeRun then
      s1.moveDisagree false
    else s1
  else s

/-- Step 2 of the query: the source (R38). -/
def State.selectSource (s : State) : Source :=
  if s.steering.disagree = true then .none
  else if s.ports.chs.fresh = true ∧ s.steering.latch.valid = true then .chassis
  else if s.params.encoderEnable = 1 ∧ s.steering.decoder = .referenced then .encoder
  else .none

/-- Whether speed gating centres the beam (R39). -/
def State.speedGated (s : State) : Bool :=
  s.ports.chs.fresh &&
    (decide (s.steering.latch.speed < s.params.swivelMinSpeed) || s.steering.latch.reverse)

/-- The steer of a source, 0 for NONE (R38). -/
def State.steerOf (s : State) : Source → Int
  | .none => 0
  | .chassis => s.steering.latch.steer
  | .encoder => encoderSteer s.params.encoderScale s.steering.count

/-- The target before its clamp: the steer by swivel_gain over 1024, truncated toward zero (R40). -/
def rawTarget (gain : Nat) (steer : Int) : Int := (steer * (gain : Int)).tdiv 1024

/-- Step 3 of the query: the target and the SWIVEL_CLIP indication (R39, R40). -/
def State.formTarget (s : State) (src : Source) : Int × Bool :=
  if s.speedGated = true ∨ src = .none then (0, false)
  else
    let raw := rawTarget s.params.swivelGain (s.steerOf src)
    (clampSigned 64 raw, decide (clampSigned 64 raw ≠ raw))

/-- Step 4 of the query: the held source takes the selected one, and a change is reported (R41). -/
def State.holdSource (src : Source) (s : State) : State :=
  if src = s.steering.source then s
  else { s with steering := { s.steering with source := src } }.reportSource src

/-- What a steering query leaves: the state after step 1 alone and after all four, the target and the SWIVEL_CLIP indication. -/
structure Query where
  afterStep1 : State
  after : State
  target : Int
  clip : Bool

/-- The steering query (R35). -/
def State.steeringQuery (s : State) : Query :=
  let s1 := s.queryPlausibility
  let src := s1.selectSource
  let t := s1.formTarget src
  { afterStep1 := s1, after := s1.holdSource src, target := t.1, clip := t.2 }

/-! ## Resets (R47) -/

/-- What RESTART clears: the Motion Latch, DISAGREE, the run counters and the held source (R47). -/
def Steering.restarted (x : Steering) : Steering :=
  { x with
    latch := MotionLatch.reset
    disagreeRun := 0
    agreeRun := 0
    disagree := false
    source := .none }

end Sys2Proof.Machine
end

