-- ==== Sys2Proof/Machine/Composition.lean ====
section
/-! DEFINITION. The Composition Engine: frame starts (R66 to R69), the latch (R70, R71), the stages (R72 to R81), completion (R82, R83), abandonment (R84) and FRAME_READ (R87). -/

namespace Sys2Proof.Machine

/-! ## The stages -/

/-- Stage 1: the swivel position moved toward the target by at most swivel_rate (R73). -/
def swivelAfter (rate : Nat) (target swivel : Int) : Int :=
  swivel + clampSigned (rate : Int) (target - swivel)

/-- Stage 2: the profile position of a logical column (R74). -/
def profilePosition (swivel : Int) (c : Nat) : Nat := (((16 + c) * 4 : Nat) - swivel).toNat

/-- The value of a profile row at a column. -/
def columnValue (row : Vector Nat 80) (k : Nat) : Nat := (row[k]?).getD 0

/-- Stage 3: the interpolated profile value at a profile position (R75). -/
def interpolated (row : Vector Nat 80) (q : Nat) : Nat :=
  (columnValue row (q / 4) * (4 - q % 4) +
    (if q % 4 = 0 then 0 else columnValue row (q / 4 + 1) * (q % 4)) + 2) / 4

/-- Stage 3: a layer's contribution (R75). -/
def contribution (weight pi : Nat) : Nat := (pi * weight + 64) / 128

/-- The base of a segment, and whether an ADD has saturated in it (R76). -/
structure Base where
  value : Nat
  saturated : Bool
deriving DecidableEq, Repr

/-- Stage 3: a contribution combined with the base (R76). -/
def Base.combine (b : Base) (op : LayerOp) (contrib : Nat) : Base :=
  match op with
  | .max => { b with value := max b.value contrib }
  | .add =>
    { value := min 255 (b.value + contrib)
      saturated := b.saturated || decide (255 < b.value + contrib) }
  | .cut => { b with value := min b.value (255 - contrib) }

/-- Whether one flag of a condition holds (R58). -/
def flagHolds (tested wanted actual : Bool) : Bool := !tested || wanted == actual

/-- Whether a layer's condition holds for the flags (R58). -/
def Layer.holds (l : Layer) (f : RoadFlags) : Bool :=
  flagHolds l.mask.traffic l.value.traffic f.traffic &&
    flagHolds l.mask.weather l.value.weather f.weather &&
    flagHolds l.mask.town l.value.town f.town

/-- Whether a layer counts in a composition that latched the flags (R58, R75). -/
def Layer.counts (l : Layer) (f : RoadFlags) : Bool := l.enabled && l.holds f

/-- The row of a slot in the recipe copy (R63, R75). -/
def Latched.copyRow (x : Latched) (slot : Nat) (r : Row) : Vector Nat 80 :=
  (((x.profiles[slot]?).getD none).getD (TwoRows.zero 80)).row r

/-- Stage 3: the base at a profile position of a row, over the layers in index order (R75, R76). -/
def Latched.base (x : Latched) (r : Row) (q : Nat) : Base :=
  x.layers.toList.foldl
    (fun b l =>
      if l.counts x.flags = true then
        b.combine l.op (contribution l.weight (interpolated (x.copyRow l.slot r) q))
      else b)
    { value := 0, saturated := false }

/-- Whether the rows of a shade include a row (R77). -/
def ShadeRows.includes (x : ShadeRows) (r : Row) : Bool :=
  match x, r with
  | .upper, .upper => true
  | .upper, .lower => false
  | .both, _ => true

/-- The left edge of a logical column, in azimuth steps (R77). -/
def columnLeft (c : Nat) : Int := ((c : Int) - 24) * 4

/-- Stage 4: how many steps of a logical column an entry covers (R77). -/
def coverage (e : ShadeEntry) (c : Nat) : Nat :=
  (max 0 (min e.right (columnLeft c + 4) - max e.left (columnLeft c))).toNat

/-- Stage 4: an entry's residual for a column (R77). -/
def entryResidual (e : ShadeEntry) (c : Nat) : Nat := 255 - ((255 - e.veff) * coverage e c + 2) / 4

/-- Stage 4: the residual of a segment, the least of the entries that take part (R77). -/
def residual (snapshot : List ShadeEntry) (k : Side) (r : Row) (c : Nat) : Nat :=
  snapshot.foldl
    (fun n e =>
      if e.rows.includes r = true ∧ e.lamps.includes k = true then min n (entryResidual e c) else n)
    255

/-- Stage 4: the shaded intensity; shades are cut in AUTO alone (R77). -/
def Latched.shaded (x : Latched) (k : Side) (r : Row) (c base : Nat) : Nat :=
  if x.mode = .auto then (base * residual x.snapshot k r c + 127) / 255 else base

/-- Stage 5: whether the latched mode and level set a row to 0 (R78). -/
def gated (mode : BeamMode) (level : Level) (r : Row) : Bool :=
  match mode, level, r with
  | .off, _, _ => true
  | .low, _, .upper => true
  | .auto, .basic, .upper => true
  | _, _, _ => false

/-- Stage 6: the trimmed intensity (R79). -/
def trimmed (trim i : Nat) : Nat := (i * (trim + 1) + 32) / 64

/-- Stage 7: the target output on the compare scale (R79). -/
def widened (i : Nat) : Nat := i * 4 + i / 64

/-- A segment computed: its new underlying output, whether it is rise-limited and whether an ADD saturated in it. -/
structure Segment where
  output : Nat
  limited : Bool
  saturated : Bool
deriving DecidableEq, Repr

/-- Stages 2 to 7: the target output of a segment (R74 to R79). -/
def Latched.targetOutput (x : Latched) (swivel : Int) (k : Side) (r : Row) (c : Nat) : Nat :=
  let shaded := x.shaded k r c (x.base r (profilePosition swivel c)).value
  widened (trimmed x.trim (if gated x.mode x.level r = true then 0 else shaded))

/-- Stages 2 to 8 for a segment whose underlying output is `u` (R74 to R80). -/
def Latched.segment (x : Latched) (swivel : Int) (k : Side) (r : Row) (c u : Nat) : Segment :=
  let t := x.targetOutput swivel k r c
  { output := if t ≤ u then t else min t (u + x.riseStep)
    limited := decide (u + x.riseStep < t)
    saturated := (x.base r (profilePosition swivel c)).saturated }

/-- The segments of one row of a lamp. -/
def Latched.rowSegments (x : Latched) (swivel : Int) (k : Side) (r : Row) (u : Vector Nat 48) :
    Vector Segment 48 :=
  Vector.ofFn fun i => x.segment swivel k r i.val u[i]

/-- The new ramp state of a lamp (R80). -/
def Latched.lampRamp (x : Latched) (swivel : Int) (k : Side) (u : TwoRows 48) : TwoRows 48 :=
  { lower := (x.rowSegments swivel k .lower u.lower).map Segment.output
    upper := (x.rowSegments swivel k .upper u.upper).map Segment.output }

/-- The 96 segments of a lamp. -/
def Latched.lampSegments (x : Latched) (swivel : Int) (k : Side) (u : TwoRows 48) : List Segment :=
  (x.rowSegments swivel k .lower u.lower).toList ++ (x.rowSegments swivel k .upper u.upper).toList

/-- Stage 9: the logical column at a physical column, and the reverse (R81, R112). -/
def mapColumn (reverse : Bool) (c : Nat) : Nat := if reverse then 47 - c else c

/-- Stage 9: the logical row at a physical row, and the reverse (R81, R112). -/
def mapRow (swap : Bool) (r : Row) : Row := if swap then r.other else r

/-- Stage 9: one physical row of a bank, from the logical row it shows (R81). -/
def placeRow (reverse : Bool) (row : Vector Nat 48) : Vector Nat 48 :=
  Vector.ofFn fun i => (row[mapColumn reverse i.val]?).getD 0

/-- Stage 9: the bank values of a lamp, by physical row and column (R81). -/
def placeBank (reverse swap : Bool) (ramp : TwoRows 48) : TwoRows 48 :=
  { lower := placeRow reverse (ramp.row (mapRow swap .lower))
    upper := placeRow reverse (ramp.row (mapRow swap .upper)) }

/-! ## Frame starts and the latch -/

/-- The level that a composition latches, of the levels that stand between the reports that come with its frame start; `n` settles which where they differ (R70, R120, R123). -/
def pickLevel (n : Nat) (first : Level) (later : List Level) : Level :=
  if later.all (fun l => l == first) = true then first
  else ((first :: later)[n % (later.length + 1)]?).getD first

/-- A lamp at a composition's latch: the shadow of an enabled lamp goes to FILLING and its placement record takes the row swap (R71, R102). -/
def Lamp.latch (l : Lamp) : Lamp :=
  if l.enabled = true then
    { l.setShadowBank { l.shadowBank with placement := l.rowSwap } with shadow := .filling }
  else l

/-- The settings that a composition latches of a lamp (R71). -/
def Lamp.latched (l : Lamp) : LatchedLamp :=
  { composed := l.enabled, colReverse := l.colReverse, rowSwap := l.rowSwap, discarded := false }

/-- The latched inputs, from a state whose owners have answered, with the query's target and the level (R70, R71). -/
def State.latchInputs (s : State) (q : Query) (level : Level) : Latched :=
  { snapshot := s.shades.table
    flags := { traffic := s.shades.traffic, weather := s.beam.weather, town := s.steering.town }
    target := q.target
    clip := q.clip
    mode := s.beam.mode
    trim := s.beam.trim
    layers := s.patterns.layers
    profiles := s.patterns.recipeProfiles
    level := level
    riseStep := s.params.riseStep
    swivelRate := s.params.swivelRate
    lamps := s.output.lamps.map Lamp.latched }

/-- A change of the VIS port's freshness that the Supervisor may take within a frame start: one it has not taken yet, or the next command's (R154, R176). -/
def State.visReportDue (s : State) : Option Bool :=
  if s.supervisor.recVisFresh = s.ports.vis.fresh then s.nextVisChange else some s.ports.vis.fresh

/-- Where among the reports of a steering query that change is taken: 0 before both, 1 between them, 2 after both. A change of the next command may also be left to that command, 3 (R123). -/
def State.visReportPlace (s : State) : Nat :=
  Config.visReportOrder s.choices %
    if s.supervisor.recVisFresh = s.ports.vis.fresh then 4 else 3

/-- The report of a VIS change `due`, taken where its place is `i`. -/
def State.takeVisReport (due : Option Bool) (place i : Nat) (s : State) : State :=
  match due with
  | some b => if place = i then s.reportVisFresh b else s
  | none => s

/-- The owners asked at a frame start, as the state after the snapshot and then after each report that the Supervisor may take: one of a VIS change before the query's two, theirs with one between, and one after them (R70, R123, R176). -/
structure Asked where
  snapshot : State
  start : State
  agreement : State
  between : State
  source : State
  after : State

/-- The Shade Manager asked for its snapshot, then the steering query, whose two reports may meet that of a VIS change (R19, R35, R123). -/
def State.askOwners (s : State) : Asked :=
  let snapshot := s.serveSnapshot
  let report := State.takeVisReport snapshot.visReportDue snapshot.visReportPlace
  let start := report 0 snapshot
  let agreement := start.queryPlausibility
  let between := report 1 agreement
  let source := between.holdSource between.selectSource
  { snapshot := snapshot
    start := start
    agreement := agreement
    between := between
    source := source
    after := report 2 source }

/-- The level that the composition latches: the Supervisor may answer before, between or after the reports (R70, R123, assumption 5). -/
def Asked.level (a : Asked) (n : Nat) : Level :=
  pickLevel n a.snapshot.supervisor.level
    ([a.start, a.agreement, a.between, a.source, a.after].map fun x => x.supervisor.level)

/-- A composition begins: the owners are asked, and the engine becomes COMPOSING on what they answer (R67, R70, R71). -/
def State.beginComposition (s : State) : State :=
  let a := s.askOwners
  { a.after with
    engine :=
      { a.after.engine with
        flight :=
          some
            (a.after.latchInputs a.snapshot.steeringQuery (a.level (Config.levelOrder s.choices))) }
    output := { a.after.output with lamps := a.after.output.lamps.map Lamp.latch }
    choices := s.choices + 1 }

/-- A frame start that finds the engine COMPOSING is skipped: both repeat counters go up, REPEAT is raised, and an overrun is reported at the limit (R68, R69). -/
def State.skipFrame (s : State) : State :=
  let consec := bump 255 s.engine.consecRepeats
  let s1 :=
    { s with
      engine :=
        { s.engine with
          repeatCount := bump Config.counterMax s.engine.repeatCount
          consecRepeats := consec } }.notify .repeated
  if s.params.overrunLimit ≤ consec then s1.reportOverrun else s1

/-- A frame start: the timer is loaded with frame_period, and a composition begins or is skipped (R66 to R68). -/
def State.frameStart (s : State) : State :=
  let s1 := { s with engine := { s.engine with timer := some s.params.framePeriod } }
  match s.engine.flight with
  | none => s1.beginComposition
  | some _ => s1.skipFrame

/-- The frame timer expires: a frame start; a stopped timer does not expire (R66). -/
def State.frameTimerExpiry (s : State) : State :=
  if s.engine.timer.isSome = true then s.frameStart else s

/-! ## Completion -/

/-- Whether a composition commits its results for a lamp: composed, and not disabled since (R82, R85). -/
def LatchedLamp.commits (l : LatchedLamp) : Bool := l.composed && !l.discarded

/-- A lamp's part of the rise-limited count: none if not composed. Of a lamp disabled since, a free value up to the segments that are rise-limited from an underlying output of 0, which the disable leaves: from any other fewer are (R80, R83, R85, assumption 6). -/
def State.limitedShare (s : State) (x : Latched) (swivel : Int) (k : Side) : Nat :=
  if (x.lamps.get k).composed = false then 0
  else if (x.lamps.get k).discarded = true then
    Config.discardedRiseLimited (2 * s.choices + sideCode k) %
      ((x.lampSegments swivel k (TwoRows.zero 48)).countP Segment.limited + 1)
  else (x.lampSegments swivel k (s.engine.ramp.get k)).countP Segment.limited

/-- Whether an ADD saturated in a segment of a composed lamp (R76), also of one disabled since (DEDUCED, assumption 23). -/
def State.saturatedIn (s : State) (x : Latched) (swivel : Int) (k : Side) : Bool :=
  (x.lamps.get k).composed &&
    (x.lampSegments swivel k (s.engine.ramp.get k)).any Segment.saturated

/-- The ramp state of a lamp after completion (R82, R85). -/
def State.rampAfter (s : State) (x : Latched) (swivel : Int) (k : Side) : TwoRows 48 :=
  if (x.lamps.get k).commits = true then x.lampRamp swivel k (s.engine.ramp.get k)
  else s.engine.ramp.get k

/-- A lamp after completion: the shadow of a lamp that commits holds the composed values and is COMPLETE (R81, R82, R85). -/
def State.lampAfter (s : State) (x : Latched) (swivel : Int) (k : Side) : Lamp :=
  let l := s.output.lamps.get k
  let m := x.lamps.get k
  if m.commits = true then
    { l.setShadowBank
        { l.shadowBank with
          values := placeBank m.colReverse m.rowSwap (x.lampRamp swivel k (s.engine.ramp.get k)) } with
      shadow := .complete }
  else l

/-- Of the flags that a completion raises, those that outlast the RESTART which comes with it: all where the raising comes after the RESTART's clearing of the sticky sets, none else; which, is a free value (R86, R140, DESIGN CHOICE, assumption 24). -/
def State.flagsOutlasting (s : State) (f : Sticky) : Sticky :=
  if s.restartNext = true ∧ Config.flagsOutlastRestart s.choices = true then f else Sticky.clear

/-- The composition in flight completes; nothing where none is in flight (R82, R83). Its working values are computed here (assumption 8). -/
def State.completeComposition (s : State) : State :=
  match s.engine.flight with
  | none => s
  | some x =>
    let swivel := swivelAfter x.swivelRate x.target s.engine.swivel
    let sat := s.saturatedIn x swivel .left || s.saturatedIn x swivel .right
    let flags := { Sticky.clear with addSat := sat, swivelClip := x.clip }
    { s with
      engine :=
        { s.engine with
          flight := none
          swivel := swivel
          ramp := { left := s.rampAfter x swivel .left, right := s.rampAfter x swivel .right }
          frameCount := (s.engine.frameCount + 1) % 65536
          consecRepeats := 0
          addSat := sat
          swivelClip := x.clip
          riseLimited := s.limitedShare x swivel .left + s.limitedShare x swivel .right }
      output :=
        { s.output with
          lamps := { left := s.lampAfter x swivel .left, right := s.lampAfter x swivel .right } }
      restartFlags := s.flagsOutlasting flags
      choices := s.choices + 1 }.raise flags

/-! ## Abandonment, disable and resets -/

/-- What STOP makes of the engine: the timer stopped, the composition abandoned, S, the ramp state and the consecutive-repeat counter 0 (R84, R88). -/
def Engine.stopped (e : Engine) : Engine :=
  { e with
    timer := none
    flight := none
    swivel := 0
    ramp := { left := TwoRows.zero 48, right := TwoRows.zero 48 }
    consecRepeats := 0 }

/-- What RESTART makes of the engine: what STOP does, and the counters and last flags cleared (R88, R170). -/
def Engine.restarted (e : Engine) : Engine :=
  { e.stopped with
    frameCount := 0
    repeatCount := 0
    addSat := false
    swivelClip := false
    riseLimited := 0 }

/-- A lamp disabled: its ramp state is 0, and a composition in flight discards its results for it (R85, R115). -/
def Engine.dropLamp (k : Side) (e : Engine) : Engine :=
  { e with
    ramp := e.ramp.set k (TwoRows.zero 48)
    flight :=
      e.flight.map fun x =>
        { x with lamps := x.lamps.set k { x.lamps.get k with discarded := true } } }

/-! ## Reading the last frame (R87, R165) -/

/-- The last frame flags as STATUS_READ and FRAME_READ give them (R164, R165). -/
def Engine.flagsByte (e : Engine) : Byte := encode8 (flagBit e.addSat + 2 * flagBit e.swivelClip)

/-- The owner's answer to FRAME_READ (R87, R165). -/
def State.serveFrameRead (payload : List Byte) (s : State) : State × List Byte :=
  match payload with
  | [lamp, rowC, column, count] =>
    match sideOfCode lamp.toNat, rowOfCode rowC.toNat with
    | some k, some r =>
      let run := readRun ((s.engine.ramp.get k).row r) column.toNat count.toNat 16
      (s,
        [Result.ok.code] ++ encode16 s.engine.frameCount ++
          [encodeInt8 s.engine.swivel, encode8 (flagBit s.engine.flight.isSome),
            s.engine.flagsByte, encode8 s.engine.riseLimited, lamp, rowC, column,
            encode8 run.length] ++ run.flatMap encode16)
    | _, _ => (s, [Result.refusedValue.code])
  | _ => (s, [Result.refusedFormat.code])

end Sys2Proof.Machine
end

