-- ==== Sys2Proof/Machine/OutputStage.lean ====
section
/-! DEFINITION. The Output Stage: the PWM counter (R103, R104), the terminal count with bank swap and flash one-shot (R105 to R109), the drive sources (R110 to R113) and LAMP_CONTROL (R114 to R116). -/

namespace Sys2Proof.Machine

/-! ## The PWM counter -/

/-- The states of one cycle of the PWM counter (R103). -/
def pwmStates : Nat := 2046

/-- The value of the PWM counter in a state of its cycle: 0 to 1022 up, then 1022 down to 0 (R103). -/
def pwmValue (n : Nat) : Nat := if n < 1023 then n else 2045 - n

/-- Whether a line of compare value `compare` is high in a state of the cycle (R104). -/
def lineHigh (compare n : Nat) : Bool := decide (pwmValue n < compare)

/-! ## The terminal count -/

/-- A lamp at a terminal count: an enabled lamp's COMPLETE shadow becomes the active bank (R106). -/
def Lamp.swap (l : Lamp) : Lamp :=
  if l.enabled = true ∧ l.shadow = .complete then
    { l with active := l.active.other, shadow := .empty }
  else l

/-- The flash one-shot at a terminal count, with the command it receives (R107). -/
def OneShot.receive (o : OneShot) (c : FlashRequest) : OneShot :=
  match o, c with
  | _, .start d => .showing d
  | _, .cancel => .idle
  | .idle, .none => .idle
  | .showing d, .none => .showing d
  | .expired, .none => .idle

/-- The flash timer of a SHOWING one-shot reaches 0 (R108). -/
def OneShot.expire (o : OneShot) : OneShot :=
  match o with
  | .idle => .idle
  | .showing _ => .expired
  | .expired => .expired

/-- A terminal count: swaps, the flash request taken and applied, flash_level read. The counter is held while RESETN is low (R99, R103, R105). -/
def State.terminalCount (s : State) : State :=
  if s.resetn = false then s
  else
    { s with
      beam := { s.beam with flash := .none }
      output :=
        { s.output with
          lamps := s.output.lamps.map Lamp.swap
          pwmState := pwmStates - 1
          flash := s.output.flash.receive s.beam.flash
          cycleFlashLevel := s.params.flashLevel } }

/-- The flash timer expires (R108). -/
def State.expireFlash (s : State) : State :=
  { s with output := { s.output with flash := s.output.flash.expire } }

/-! ## What each lamp shows -/

/-- The drive sources of a lamp (R110, R111). -/
inductive DriveSource where
  | dark
  | activeBank
  | flash
  | limpPattern
  | retained
deriving DecidableEq, Repr

/-- Whether the flash is shown: the one-shot is SHOWING or EXPIRED (R107). -/
def Output.flashShown (o : Output) : Bool := decide (o.flash ≠ .idle)

/-- The LIMP pattern while LOW_REQ is high, dark while it is low (R110, R111). -/
def Output.limpOnRequest (o : Output) : DriveSource := if o.lowReq then .limpPattern else .dark

/-- The drive source that a fallback gives at level SAFE in RUN (R111). -/
def Output.fallbackSource (o : Output) (f : Fallback) : DriveSource :=
  match f with
  | .retain => .retained
  | .dark => o.limpOnRequest
  | .limp => .limpPattern

/-- The drive source of a lamp (R110, R111). -/
def State.driveSource (s : State) (k : Side) : DriveSource :=
  if (s.output.lamps.get k).enabled = false then .dark
  else if s.device ≠ .run then s.output.limpOnRequest
  else if s.supervisor.level = .safe then s.output.fallbackSource (s.output.lamps.get k).fallback
  else if s.output.flashShown = true then .flash
  else .activeBank

/-- The LIMP pattern by logical row and column (R112). -/
def limpValue (r : Row) (c : Nat) : Nat :=
  match r with
  | .lower => if 16 ≤ c ∧ c ≤ 39 then 640 else 320
  | .upper => 0

/-- A value of a bank at a physical position. -/
def Bank.valueAt (b : Bank) (r : Row) (p : Nat) : Nat := ((b.values.row r)[p]?).getD 0

/-- The drive compare value at a physical position of a lamp (R104, R110 to R112). -/
def State.driveCompare (s : State) (k : Side) (r : Row) (p : Nat) : Nat :=
  let l := s.output.lamps.get k
  match s.driveSource k with
  | .dark => 0
  | .activeBank => l.activeBank.valueAt r p
  | .flash => s.output.cycleFlashLevel
  | .limpPattern => limpValue (mapRow l.rowSwap r) (mapColumn l.colReverse p)
  | .retained =>
    if mapRow l.activeBank.placement r = .lower then l.activeBank.valueAt r p else 0

/-- The number of a segment line, 0 to 95, at a physical position (R102). -/
def lineNumber (r : Row) (p : Nat) : Nat :=
  match r with
  | .lower => p
  | .upper => 48 + p

/-- The level of the segment line at a physical position in a state of the PWM cycle; driven low while RESETN is low (R104, R110). -/
def State.segmentLine (s : State) (k : Side) (r : Row) (p n : Nat) : Bool :=
  s.resetn && lineHigh (s.driveCompare k r p) n

/-- An edge on LOW_REQ (R113). -/
def State.lowRequest (e : Edge) (s : State) : State :=
  { s with output := { s.output with lowReq := e == .rising } }

/-! ## Lamp control -/

/-- The four settings that a LAMP_CONTROL writes (R114). -/
structure LampSettings where
  enabled : Bool
  fallback : Fallback
  colReverse : Bool
  rowSwap : Bool
deriving DecidableEq, Repr

/-- A lamp with its settings written (R114). -/
def Lamp.withSettings (l : Lamp) (x : LampSettings) : Lamp :=
  { l with
    enabled := x.enabled
    fallback := x.fallback
    colReverse := x.colReverse
    rowSwap := x.rowSwap }

/-- Both placement records of a lamp set to its row swap (R115). -/
def Lamp.recordPlacement (l : Lamp) : Lamp :=
  { l with
    bankA := { l.bankA with placement := l.rowSwap }
    bankB := { l.bankB with placement := l.rowSwap } }

/-- The settings of one lamp written: a disable of an enabled lamp darkens it, with enable off on a disabled lamp the placement records follow (R114 to R116). -/
def State.writeLamp (x : LampSettings) (k : Side) (s : State) : State :=
  let old := s.output.lamps.get k
  let l := old.withSettings x
  if x.enabled = true then s.onLamp k fun _ => l
  else if old.enabled = true then
    { s.onLamp k fun _ => l.darkened with engine := s.engine.dropLamp k }
  else s.onLamp k fun _ => l.recordPlacement

/-- The settings written for the selected lamps as one event (R114). -/
def State.writeLamps (x : LampSettings) (sel : ShadeLamps) (s : State) : State :=
  match sel with
  | .left => s.writeLamp x .left
  | .right => s.writeLamp x .right
  | .both => (s.writeLamp x .left).writeLamp x .right

/-- The owner's answer to LAMP_CONTROL (R114, R163). -/
def State.serveLampControl (payload : List Byte) (s : State) : State × List Byte :=
  match payload with
  | [sel, settings, fb] =>
    match lampsOfCode sel.toNat, fallbackOfCode fb.toNat with
    | some lamps, some fallback =>
      let t :=
        s.writeLamps
          { enabled := bitAt settings 0
            fallback := fallback
            colReverse := bitAt settings 1
            rowSwap := bitAt settings 2 } lamps
      (t, [Result.ok.code] ++ encodeLamp t.output.lamps.left ++ encodeLamp t.output.lamps.right)
    | _, _ => (s, [Result.refusedValue.code])
  | _ => (s, [Result.refusedFormat.code])

/-! ## Resets -/

/-- What STOP and RESTART make of the Output Stage: every bank 0, every shadow EMPTY, the one-shot IDLE (6.7, R107). -/
def Output.stopped (o : Output) : Output :=
  { o with lamps := o.lamps.map Lamp.darkened, flash := .idle }

end Sys2Proof.Machine
end

