-- ==== Sys2Proof/Machine/Links.lean ====
section
/-! DEFINITION. The lamp link ports: the receiver's faults (R147 to R149), the request slot and the reply queue (R150 to R152) and freshness (R153, R154). -/

namespace Sys2Proof.Machine

/-! ## The receiver -/

/-- The receiver in a state, with the gap timer running outside HUNT (R146, R147). -/
def PortState.receive (r : Receiver) (p : PortState) : PortState :=
  { p with receiver := r, gapTimer := decide (r ≠ .hunt) }

/-- A LEN character above 60: the frame is abandoned and the length counter goes up (R148). -/
def PortState.lengthFault (p : PortState) : PortState :=
  { p.receive .hunt with lengthErrors := bump Config.counterMax p.lengthErrors }

/-- A failed frame check: the frame is discarded and the CRC counter goes up (R148). -/
def PortState.crcFault (p : PortState) : PortState :=
  { p.receive .hunt with crcErrors := bump Config.counterMax p.crcErrors }

/-- A gap inside a frame: the frame is abandoned and the gap counter goes up (R147). -/
def PortState.gapFault (p : PortState) : PortState :=
  { p.receive .hunt with gapErrors := bump Config.counterMax p.gapErrors }

/-- The gap timer of a port expires; a timer that does not run does not expire (R147). -/
def State.gapExpiry (p : Port) (s : State) : State :=
  if (s.ports.get p).gapTimer = true then s.onPort p PortState.gapFault else s

/-! ## The reply queue -/

/-- A request dropped because both places are held (R150). -/
def PortState.drop (p : PortState) : PortState :=
  { p with
    dropped := bump Config.counterMax p.dropped
    tally := { p.tally with dropped := p.tally.dropped + 1 } }

/-- A reply placed in the queue with the request slot freed; its KIND is the request's plus 0x80 (R151, R152). -/
def PortState.placeReply (f : Frame) (payload : List Byte) (p : PortState) : PortState :=
  { p with
    slot := none
    replies := p.replies ++ [{ tag := f.tag, kind := f.kind + 0x80, payload := payload }] }

/-- The oldest reply has been sent and leaves the queue; nothing where the queue is empty (R152). -/
def PortState.replySent (p : PortState) : PortState :=
  match p.replies with
  | [] => p
  | _ :: rest => { p with replies := rest, tally := { p.tally with sent := p.tally.sent + 1 } }

/-- The characters that a port's transmitter sends for the oldest reply, none while the queue is empty (R152). -/
def PortState.sending (p : PortState) : Option (List Byte) :=
  p.replies.head?.map fun r => wireFrame { tag := r.tag, kind := r.kind, payload := r.payload }

/-! ## Freshness -/

/-- The VIS port's change of freshness as it goes to the Supervisor: at once, or, where a frame start comes with it, among that frame start's own reports; which, is a free value (R154, R176, assumption 5). -/
def State.reportVisChange (b : Bool) (s : State) : State :=
  if s.compositionNext = true ∧ Config.visReportWaits s.choices = true then s
  else s.reportVisFresh b

/-- A refresh: the timer is loaded with the port's timeout, and a STALE port becomes FRESH, with STALE raised and the VIS change reported (R153, R154). -/
def State.refresh (p : Port) (s : State) : State :=
  let s1 :=
    s.onPort p fun x => { x with fresh := true, freshTimer := some (s.params.timeout p) }
  if (s.ports.get p).fresh = true then s1
  else
    match p with
    | .vis => (s1.notify .stale).reportVisChange true
    | .chs => s1.notify .stale
    | .cab => s1.notify .stale

/-- What a stale port's dependents make of it (R154). -/
def State.tellDependents (p : Port) (s : State) : State :=
  match p with
  | .vis => s.shadesStale.reportVisChange false
  | .chs => s.motionStale
  | .cab => s.lowerBeam.closeSession

/-- The freshness timer of a port runs out: a FRESH port becomes STALE; a STALE port's timer does not run (R153, R154). -/
def State.freshnessExpiry (p : Port) (s : State) : State :=
  if (s.ports.get p).fresh = true then
    ((s.onPort p fun x => { x with fresh := false, freshTimer := none }).notify
      .stale).tellDependents p
  else s

end Sys2Proof.Machine
end

