-- ==== Sys2Proof/Machine/DeviceState.lean ====
section
/-! DEFINITION. The device state logic: hard reset and BOOT (R166), START, STOP and RESTART (R167 to R170), CONFIG_WRITE and CONFIG_READ (R171 to R173). -/

namespace Sys2Proof.Machine

/-! ## Hard reset and BOOT (R166) -/

/-- RESETN falls: every block takes its reset values. The levels of the encoder lines and of LOW_REQ are the outside world's and stay, and so does the queue of waiting commands (R166, assumption 4). -/
def State.hardReset (s : State) : State :=
  { State.reset with
    steering := { Steering.reset with encA := s.steering.encA, encB := s.steering.encB }
    output := { Output.reset with lowReq := s.output.lowReq }
    pending := s.pending
    choices := s.choices }

/-- RESETN rises: the PWM counter and the windows start from their held values and BOOT clears the Profile Store (R103, R124, R166). A line that is high does not rise. -/
def State.resetnRise (s : State) : State :=
  if s.resetn = true then s
  else
    { s with
      resetn := true
      patterns := { s.patterns with store := PatternMemory.reset.store } }

/-- The receiver waits for its line to be high for a whole character time before it takes a start bit (R146). -/
def PortState.settle (p : PortState) : PortState := { p with settling := true }

/-- BOOT ends: the part enters STANDBY, which is reported to the Supervisor, and each receiver waits for a quiet line; BOOT does not end while RESETN is low (R146, R166). -/
def State.endOfBoot (s : State) : State :=
  if s.device = .boot ∧ s.resetn = true then
    { s with device := .standby, ports := s.ports.map PortState.settle }.reportDevice .standby false
  else s

/-! ## RUN_CONTROL (R167 to R170) -/

/-- START taken: RUN, the level computed, then the first frame start (R66, R120, R168). -/
def State.startRun (s : State) : State :=
  ({ s with device := .run }.reportDevice .run false).frameStart

/-- The owner's answer to START (R64, R167). -/
def State.serveStart (s : State) : State × List Byte :=
  if s.device = .standby ∧ 0 < s.patterns.enabledCount then
    (s.startRun, [Result.ok.code, encode8 (deviceCode .run)])
  else (s, [Result.refusedState.code])

/-- What STOP and RESTART do alike: the table, the beam in flight, the banks, the flash and its request cleared, STANDBY (R169). -/
def State.halted (s : State) : State :=
  { s with
    device := .standby
    shades := s.shades.cleared
    beam := { s.beam with flash := .none }
    engine := s.engine.stopped
    output := s.output.stopped }

/-- STOP taken (R169). -/
def State.stopRun (s : State) : State := s.halted.reportDevice .standby true

/-- The owner's answer to STOP (R167). -/
def State.serveStop (s : State) : State × List Byte :=
  if s.device = .run then (s.stopRun, [Result.ok.code, encode8 (deviceCode .standby)])
  else (s, [Result.refusedState.code])

/-- The sticky set of a port cleared (R140, R141). -/
def PortState.clearSticky (p : PortState) : PortState := { p with sticky := Sticky.clear }

/-- RESTART taken: all that STOP does, and the steering state, the session, the sticky sets and the frame counters cleared and RESTART raised (R170). The flags of a completion that comes with the RESTART may stay set, as R86 has it: their raising then comes after the clearing (R140, assumption 24). -/
def State.restartPart (s : State) : State :=
  let cleared : State :=
    { s.halted with
      steering := s.steering.restarted
      patterns := { s.patterns with session := none }
      engine := s.engine.restarted
      supervisor := { s.supervisor with recSource := .none, recDisagree := false }
      ports := s.ports.map fun p => { p with sticky := s.restartFlags }
      restartFlags := Sticky.clear }
  (cleared.reportDevice .standby true).notify .restart

/-- The owner's answer to RESTART (R167). -/
def State.serveRestart (s : State) : State × List Byte :=
  (s.restartPart, [Result.ok.code, encode8 (deviceCode .standby)])

/-- The owner's answer to RUN_CONTROL by its command code (R163, R167). -/
def State.serveRunControl (payload : List Byte) (s : State) : State × List Byte :=
  match payload with
  | [c] =>
    match c.toNat with
    | 1 => s.serveStart
    | 2 => s.serveStop
    | 3 => s.serveRestart
    | _ => (s, [Result.refusedValue.code])
  | _ => (s, [Result.refusedFormat.code])

/-! ## Parameters (R172, R173) -/

/-- One pair of a CONFIG_WRITE: the parameters after it and its code (R172). -/
def writePair (running : Bool) (x : Params) (pair : Nat × Nat) : Params × Result :=
  match paramOfId pair.1 with
  | none => (x, .refusedValue)
  | some p =>
    if p = .framePeriod ∧ running = true then (x, .refusedState)
    else
      (x.set p (clampParam p pair.2), if clampParam p pair.2 = pair.2 then .ok else .okClamped)

/-- The pairs of a CONFIG_WRITE in request order: the parameters after them and their codes (R172). -/
def writePairs (running : Bool) : Params → List (Nat × Nat) → Params × List Result
  | x, [] => (x, [])
  | x, pair :: rest =>
    let one := writePair running x pair
    let all := writePairs running one.1 rest
    (all.1, one.2 :: all.2)

/-- town_off raised to town_on where it lies below it (R30). -/
def raiseTownOff (x : Params) : Params :=
  if x.townOff < x.townOn then { x with townOff := x.townOn } else x

/-- Whether a pair names encoder_limit. -/
def namesEncoderLimit (pair : Nat × Nat) : Bool := paramOfId pair.1 == some .encoderLimit

/-- The overall result of a CONFIG_WRITE (R172). -/
def configResult (codes : List Result) (raised : Bool) : Result :=
  if codes.any (fun r => r == .refusedValue || r == .refusedState) = true then .okPartial
  else if codes.contains .okClamped || raised then .okClamped
  else .ok

/-- The owner's answer to CONFIG_WRITE (R30, R33, R172). -/
def State.serveConfigWrite (payload : List Byte) (s : State) : State × List Byte :=
  let pairs := readPairs payload
  let w := writePairs (decide (s.device = .run)) s.params pairs
  let params := raiseTownOff w.1
  let raised := decide (w.1.townOff < w.1.townOn)
  let steering :=
    if pairs.any namesEncoderLimit = true then limitTest params.encoderLimit s.steering
    else s.steering
  ({ s with params := params, steering := steering }.raise
      (clampFlag (w.2.contains .okClamped || raised)),
    (configResult w.2 raised).code :: w.2.map Result.code)

/-- One id of a CONFIG_READ: the id and its value, 0xFFFF where it names no parameter (R173). -/
def readParam (x : Params) (id : Byte) : List Byte :=
  match paramOfId id.toNat with
  | some p => id :: encode16 (x.get p)
  | none => [id, 0xFF, 0xFF]

/-- The owner's answer to CONFIG_READ (R163, R173). -/
def State.serveConfigRead (payload : List Byte) (s : State) : State × List Byte :=
  let unnamed := payload.any fun id => (paramOfId id.toNat).isNone
  (s, (if unnamed then Result.okPartial else Result.ok).code :: payload.flatMap (readParam s.params))

end Sys2Proof.Machine
end

