-- ==== Sys2Proof/Machine/StatusNotices.lean ====
section
/-! DEFINITION. NOTICE_READ and NOTICE_CONTROL (R136, R137), STATUS_CLEAR (R141) and the payload of STATUS_READ (R142). -/

namespace Sys2Proof.Machine

/-! ## Notices -/

/-- A node as NOTICE_READ lists it: its number and its priority (R136). -/
structure NodeItem where
  number : Nat
  priority : Nat
deriving DecidableEq, Repr

/-- Descending priority, then ascending node number (R136). -/
def NodeItem.before (a b : NodeItem) : Bool :=
  decide (b.priority < a.priority) ||
    (decide (a.priority = b.priority) && decide (a.number ≤ b.number))

/-- The pending nodes of a port in the order NOTICE_READ gives them (R136). -/
def pendingItems (nodes : Vector Node 8) : List NodeItem :=
  ((nodes.toList.zipIdx.filter fun n => n.1.pending).map fun n =>
    { number := n.2, priority := n.1.priority : NodeItem }).insertionSort fun a b =>
      a.before b = true

/-- The owner's answer to NOTICE_READ: the requesting port's nodes alone (R136, R164). -/
def State.serveNoticeRead (p : Port) (s : State) : State × List Byte :=
  let port := s.ports.get p
  let items := pendingItems port.nodes
  (s,
    [Result.ok.code, encode8 (flagBit port.lineAsserted), encode8 items.length] ++
      items.flatMap fun n => [encode8 n.number, encode8 n.priority])

/-- A node's priority after a priority field: 0 to 15 sets it, 255 keeps it, anything else sets 15 (R137). -/
def priorityAfter (field old : Nat) : Nat :=
  if field ≤ 15 then field else if field = 255 then old else 15

/-- Whether a priority field counts as a clamp (R137). -/
def priorityClamped (field : Nat) : Bool := decide (15 < field) && decide (field ≠ 255)

/-- A pending flag after the set and clear masks: named in both or in neither it is kept (R137). -/
def pendingAfter (set clear old : Bool) : Bool :=
  if set && !clear then true else if clear && !set then false else old

/-- The nodes of a port after a NOTICE_CONTROL (R137). -/
def controlNodes (payload : List Byte) (nodes : Vector Node 8) : Vector Node 8 :=
  Vector.ofFn fun i =>
    { pending := pendingAfter (bitAt (payload.getD 8 0) i.val) (bitAt (payload.getD 9 0) i.val)
        nodes[i].pending
      priority := priorityAfter (payload.getD i.val 0).toNat nodes[i].priority }

/-- The owner's answer to NOTICE_CONTROL: the requesting port's nodes alone (R137, R164). -/
def State.serveNoticeControl (p : Port) (payload : List Byte) (s : State) : State × List Byte :=
  let before := (s.ports.get p).nodes
  let after := controlNodes payload before
  let clamped := (payload.take 8).any fun c => priorityClamped c.toNat
  let t := (s.onPort p fun x => { x with nodes := after }).raise (clampFlag clamped)
  (t,
    [(if clamped then Result.okClamped else Result.ok).code, pendingByte before, pendingByte after]
      ++ after.toList.map (fun n => encode8 n.priority)
      ++ [encode8 (flagBit (t.ports.get p).lineAsserted)])

/-! ## Status -/

/-- The four error counters of a port, two characters each: gap, length, CRC, dropped (R164). -/
def PortState.counterBytes (p : PortState) : List Byte :=
  encode16 p.gapErrors ++ encode16 p.lengthErrors ++ encode16 p.crcErrors ++ encode16 p.dropped

/-- The owner's answer to STATUS_CLEAR with FLAGS (R141, R164). -/
def State.serveClearFlags (p : Port) (s : State) : State × List Byte :=
  (s.onPort p PortState.clearSticky,
    [Result.ok.code, encodeSticky (s.ports.get p).sticky])

/-- The owner's answer to STATUS_CLEAR with FLAGS_AND_COUNTERS (R141, R164). -/
def State.serveClearAll (p : Port) (s : State) : State × List Byte :=
  (s.onPort p fun x =>
      { x with
        sticky := Sticky.clear
        gapErrors := 0
        lengthErrors := 0
        crcErrors := 0
        dropped := 0 },
    [Result.ok.code, encodeSticky (s.ports.get p).sticky] ++ (s.ports.get p).counterBytes)

/-- The owner's answer to STATUS_CLEAR by its option (R141). -/
def State.serveStatusClear (p : Port) (payload : List Byte) (s : State) : State × List Byte :=
  match payload with
  | [c] =>
    match c.toNat with
    | 1 => s.serveClearFlags p
    | 2 => s.serveClearAll p
    | _ => (s, [Result.refusedValue.code])
  | _ => (s, [Result.refusedFormat.code])

/-- What a STATUS_READ reads apart: the owners of R142's table, but that S stands apart from the Composition Engine's other items, as R142's example has it (assumption 9). -/
inductive StatusOwner where
  | device
  | supervisor
  | beam
  | shades
  | steering
  | swivel
  | engine
  | clock
  | links
  | patterns
deriving DecidableEq, Repr

/-- The number by which an owner's free value is asked. -/
def StatusOwner.number : StatusOwner → Nat
  | .device => 0
  | .supervisor => 1
  | .beam => 2
  | .shades => 3
  | .steering => 4
  | .swivel => 5
  | .engine => 6
  | .clock => 7
  | .links => 8
  | .patterns => 9

/-- The freshness character: bit 0 VIS, bit 1 CHS, bit 2 CAB (R164). -/
def State.freshnessByte (s : State) : Byte :=
  encode8 (flagBit s.ports.vis.fresh + 2 * flagBit s.ports.chs.fresh + 4 * flagBit s.ports.cab.fresh)

/-- The items of a STATUS_READ laid out by their offsets, those of each owner from the state in which `v` has it read (R142, R164). -/
def statusPayload (v : StatusOwner → State) (p : Port) : List Byte :=
  let port := (v .links).ports.get p
  [ Result.ok.code
  , encode8 (deviceCode (v .device).device)
  , encode8 (levelCode (v .supervisor).supervisor.level)
  , encode8 (modeCode (v .beam).beam.mode)
  , encode8 (v .beam).beam.trim
  , encode8
      (flagBit (v .beam).beam.weather + 2 * flagBit (v .shades).shades.traffic +
        4 * flagBit (v .steering).steering.town)
  , encodeInt8 (v .swivel).engine.swivel
  , encode8 (sourceCode (v .steering).steering.source)
  , encode8 (decoderCode (v .steering).steering.decoder)
  , encode8 (clockCode (v .clock).supervisor.clock.state)
  , (v .links).freshnessByte ]
  ++ encode16 (v .engine).engine.frameCount
  ++ encode16 (v .engine).engine.repeatCount
  ++ [encode8 (v .engine).engine.consecRepeats, encode8 (v .engine).engine.riseLimited,
      (v .engine).engine.flagsByte, encodeSticky port.sticky]
  ++ port.counterBytes
  ++ [encode8 (v .shades).shades.table.length]
  ++ encode16 (v .shades).shades.ignored
  ++ encode16 (v .shades).shades.coalesced
  ++ encode16 (v .steering).steering.slips
  ++ encodeSession (v .patterns).patterns.session

end Sys2Proof.Machine
end

