-- ==== Sys2Proof/Machine/Requests.lean ====
section
/-! DEFINITION. A request from its frame to its reply: the reply queue check (R150), the dispatch checks (R151), the owner's answer (chapter by chapter), the receiver that assembles the frames (R146), and what a STATUS_READ finds of the event that comes with it (R142). -/

namespace Sys2Proof.Machine

/-! ## Dispatch -/

/-- A request that passed the dispatch checks, taken by its owner: the state after it and the reply payload. The three data requests refresh their port (R151, R153). A STATUS_READ reads each owner in the state that `v` gives, and changes nothing but the count of free values (R142). -/
def State.serve (v : StatusOwner → State) (k : RequestKind) (p : Port) (payload : List Byte)
    (s : State) : State × List Byte :=
  match k with
  | .shadeList => (s.refresh p).serveShadeList payload
  | .motion => (s.refresh p).serveMotion payload
  | .mode => (s.refresh p).serveMode payload
  | .runControl => s.serveRunControl payload
  | .configWrite => s.serveConfigWrite payload
  | .lampControl => s.serveLampControl payload
  | .recipeWrite => s.serveRecipeWrite payload
  | .profileOpen => s.serveProfileOpen payload
  | .profileData => s.serveProfileData payload
  | .profileClose => s.serveProfileClose
  | .statusRead => ({ s with choices := s.choices + 1 }, statusPayload v p)
  | .statusClear => s.serveStatusClear p payload
  | .shadeRead => s.serveShadeRead payload
  | .frameRead => s.serveFrameRead payload
  | .profileRead => s.serveProfileRead payload
  | .recipeRead => s.serveRecipeRead
  | .configRead => s.serveConfigRead payload
  | .noticeRead => s.serveNoticeRead p
  | .noticeControl => s.serveNoticeControl p payload

/-- The three dispatch checks in their order, then the owner; a request that fails a check has no effect (R151). -/
def State.dispatch (v : StatusOwner → State) (p : Port) (f : Frame) (s : State) :
    State × List Byte :=
  match RequestKind.ofCode f.kind with
  | none => (s, [Result.unknownKind.code])
  | some k =>
    if k.permitted p = false then (s, [Result.refusedPort.code])
    else if k.lenAllowed f.payload.length = false then (s, [Result.refusedFormat.code])
    else s.serve v k p f.payload

/-- A well-formed frame leaves the receiver, which is back in HUNT and has found its line quiet since BOOT (R146, R152). -/
def PortState.frameIn (p : PortState) : PortState :=
  { p.receive .hunt with settling := false, tally := { p.tally with received := p.tally.received + 1 } }

/-- The event that completes a well-formed frame on a port: dropped where both places of the reply queue are held, else dispatched and answered (R150, R151). During BOOT the receiver takes no character, and the frame is lost (R146, R166). The owner answers within the event (assumptions 2 and 21). `v` is what a STATUS_READ finds. -/
def State.takeFrameReading (v : StatusOwner → State) (p : Port) (f : Frame) (s : State) : State :=
  if s.device = .boot then s
  else
    let s1 := s.onPort p PortState.frameIn
    if Config.queueCapacity ≤ (s1.ports.get p).places then s1.onPort p PortState.drop
    else
      let a := (s1.onPort p fun x => { x with slot := some f }).dispatch v p f
      a.1.onPort p (PortState.placeReply f a.2)

/-! ## The receiver (R146, R148) -/

/-- A character taken by the receiver of a port in the state it finds (R146). `v` is what a STATUS_READ that it completes finds. -/
def State.assemble (v : StatusOwner → State) (p : Port) (c : Byte) (s : State) : State :=
  match (s.ports.get p).receiver with
  | .hunt => if c = syncChar then s.onPort p (PortState.receive .headerTag) else s
  | .headerTag => s.onPort p (PortState.receive (.headerKind c))
  | .headerKind tag => s.onPort p (PortState.receive (.headerLen tag c))
  | .headerLen tag kind =>
    if maxPayload < c.toNat then s.onPort p PortState.lengthFault
    else if c.toNat = 0 then s.onPort p (PortState.receive (.checkHigh tag kind []))
    else s.onPort p (PortState.receive (.payload tag kind [] c.toNat))
  | .payload tag kind taken left =>
    if left ≤ 1 then s.onPort p (PortState.receive (.checkHigh tag kind (taken ++ [c])))
    else s.onPort p (PortState.receive (.payload tag kind (taken ++ [c]) (left - 1)))
  | .checkHigh tag kind taken => s.onPort p (PortState.receive (.checkLow tag kind taken c))
  | .checkLow tag kind taken high =>
    if crcPasses { tag := tag, kind := kind, payload := taken } high c = true then
      s.takeFrameReading v p { tag := tag, kind := kind, payload := taken }
    else s.onPort p PortState.crcFault

/-- The receiver of a port has found its line quiet: it is in HUNT and takes the next start bit (R146). -/
def PortState.settled (p : PortState) : PortState := { p.receive .hunt with settling := false }

/-- A character that has come on a port. In BOOT none is taken. While the receiver still waits for a quiet line after BOOT, the character is not taken, or is one that came after the wait; which, is a free value (R146, DESIGN CHOICE, assumption 26). -/
def State.takeCharacterReading (v : StatusOwner → State) (p : Port) (c : Byte) (s : State) : State :=
  if s.device = .boot then s
  else if (s.ports.get p).settling = true then
    let s1 := { s with choices := s.choices + 1 }
    if Config.lineWasQuiet s.choices = true then (s1.onPort p PortState.settled).assemble v p c
    else s1
  else s.assemble v p c

/-- A LEN character above 60, where the receiver waits for LEN; anything else is no length fault (R146, R148). -/
def State.takeLengthFault (p : Port) (len : Byte) (s : State) : State :=
  match (s.ports.get p).receiver with
  | .headerLen _ _ =>
    if s.device ≠ .boot ∧ maxPayload < len.toNat then s.onPort p PortState.lengthFault else s
  | _ => s

/-- A second CRC character that fails the check, where the receiver waits for it; anything else is no CRC fault (R146, R148). -/
def State.takeCrcFault (p : Port) (c : Byte) (s : State) : State :=
  match (s.ports.get p).receiver with
  | .checkLow tag kind taken high =>
    if s.device ≠ .boot ∧ crcPasses { tag := tag, kind := kind, payload := taken } high c = false
    then s.onPort p PortState.crcFault
    else s
  | _ => s

/-! ## A STATUS_READ and the event that comes with it (R142) -/

/-- Whether a command may come together with a request of port `p`: neither a request nor a character of that port, and no hard reset, which leaves no reply (R150, R155). -/
def comesWithRequest (p : Port) (c : Instr) : Bool :=
  match requestFrame c, c with
  | some (q, _), _ => decide (q ≠ p)
  | none, .characterReceived q _ => decide (q ≠ p)
  | none, .lengthFault q _ => decide (q ≠ p)
  | none, .crcFault q _ => decide (q ≠ p)
  | none, .gapTimerExpiry q => decide (q ≠ p)
  | none, .hardReset => false
  | none, _ => true

/-- The effect of a command, as a STATUS_READ that comes with it may find it: its meaning, but that another STATUS_READ finds the state as it is. -/
def State.preview (c : Instr) (s : State) : State :=
  match requestFrame c, c with
  | some (p, f), _ => s.takeFrameReading (fun _ => s) p f
  | none, .lengthFault p len => s.takeLengthFault p len
  | none, .crcFault p char => s.takeCrcFault p char
  | none, .gapTimerExpiry p => s.gapExpiry p
  | none, .replySent p => s.onPort p PortState.replySent
  | none, .freshnessTimerExpiry p => s.freshnessExpiry p
  | none, .frameStart => s.frameTimerExpiry
  | none, .compositionComplete => s.completeComposition
  | none, .terminalCount => s.terminalCount
  | none, .flashTimerExpiry => s.expireFlash
  | none, .windowClose => s.closeWindow
  | none, .tellPhaseExpiry => s.expireTellPhase
  | none, .encoderEdge line edge => s.encoderEdge line edge
  | none, .indexEvent => s.encoderIndex
  | none, .lowReqEdge edge => s.lowRequest edge
  | none, .hardReset => s.hardReset
  | none, .resetnRise => s.resetnRise
  | none, .endOfBoot => s.endOfBoot
  | none, .refclkEdge => s.countReference
  | none, .characterReceived p char => s.takeCharacterReading (fun _ => s) p char
  | none, _ => s

/-- The state in which the owners find the part as a request completes on port `p`, whose receiver is back in HUNT (R146). -/
def State.completing (p : Port) (s : State) : State := s.onPort p (PortState.receive .hunt)

/-- The state in which a STATUS_READ of port `p` reads each owner: as it stands, or as the next command leaves it where that comes with the read and falls before the read of that owner; which, is a free value for each owner (R142, assumption 9). -/
def State.ownersRead (p : Port) (s : State) : StatusOwner → State :=
  match s.pending with
  | [] => fun _ => s.completing p
  | c :: rest =>
    if comesWithRequest p c = true then
      fun o =>
        if Config.readAfterNext s.choices o.number = true then
          { s.completing p with pending := rest, choices := s.choices + 1 }.preview c
        else s.completing p
    else fun _ => s.completing p

/-- The event that completes a well-formed frame on a port (R150, R151, R142). -/
def State.takeFrame (p : Port) (f : Frame) (s : State) : State :=
  s.takeFrameReading (s.ownersRead p) p f

/-- A character taken by the receiver of a port (R146, R142). -/
def State.takeCharacter (p : Port) (c : Byte) (s : State) : State :=
  s.takeCharacterReading (s.ownersRead p) p c

end Sys2Proof.Machine
end

