-- ==== Sys2Proof/Machine/LinkEvents.lean ====
section
/-! DEFINITION. The meanings of the rows that are events of a lamp link, one definition each. -/

namespace Sys2Proof.Machine

/-- LENGTH_FAULT (R148): a LEN character above 60 abandons the frame. -/
def execLengthFault (p : Port) (len : Byte) (s : State) : Host.Outcome State Fault Refusal :=
  .next (s.takeLengthFault p len)

/-- CRC_FAULT (R148): the second CRC character fails the frame check. -/
def execCrcFault (p : Port) (char : Byte) (s : State) : Host.Outcome State Fault Refusal :=
  .next (s.takeCrcFault p char)

/-- GAP_TIMER_EXPIRY (R147): a gap within a frame abandons it. -/
def execGapTimerExpiry (p : Port) (s : State) : Host.Outcome State Fault Refusal :=
  .next (s.gapExpiry p)

/-- REPLY_SENT (R152): the oldest reply leaves the queue. -/
def execReplySent (p : Port) (s : State) : Host.Outcome State Fault Refusal :=
  .next (s.onPort p PortState.replySent)

/-- FRESHNESS_TIMER_EXPIRY (R154): a fresh port becomes STALE and its dependents are told. -/
def execFreshnessTimerExpiry (p : Port) (s : State) : Host.Outcome State Fault Refusal :=
  .next (s.freshnessExpiry p)

/-- CHARACTER_RECEIVED (R146): a character is taken by the receiver in the state it finds. -/
def execCharacterReceived (p : Port) (char : Byte) (s : State) : Host.Outcome State Fault Refusal :=
  .next (s.takeCharacter p char)

end Sys2Proof.Machine
end

