-- ==== Sys2Proof/Machine/PartEvents.lean ====
section
/-! DEFINITION. The meanings of the rows that are the part's own events and the edges on its lines, one definition each. -/

namespace Sys2Proof.Machine

/-- FRAME_START (R67): the frame timer expires and a composition begins or is skipped; a stopped timer does not expire. -/
def execFrameStart (s : State) : Host.Outcome State Fault Refusal :=
  .next s.frameTimerExpiry

/-- COMPOSITION_COMPLETE (R82): the composition in flight completes. -/
def execCompositionComplete (s : State) : Host.Outcome State Fault Refusal :=
  .next s.completeComposition

/-- TERMINAL_COUNT (R105): banks are swapped, the flash command is taken and flash_level is read. -/
def execTerminalCount (s : State) : Host.Outcome State Fault Refusal :=
  .next s.terminalCount

/-- FLASH_TIMER_EXPIRY (R108): a SHOWING one-shot goes to EXPIRED. -/
def execFlashTimerExpiry (s : State) : Host.Outcome State Fault Refusal :=
  .next s.expireFlash

/-- WINDOW_CLOSE (R125): a Clock Monitor window closes and the clock state moves. -/
def execWindowClose (s : State) : Host.Outcome State Fault Refusal :=
  .next s.closeWindow

/-- TELL_PHASE_EXPIRY (R130): the blink phase changes, or a held OFF is taken. -/
def execTellPhaseExpiry (s : State) : Host.Outcome State Fault Refusal :=
  .next s.expireTellPhase

/-- ENCODER_EDGE (R31): the count changes by encoder_mode. -/
def execEncoderEdge (line : EncoderLine) (edge : Edge) (s : State) : Host.Outcome State Fault Refusal :=
  .next (s.encoderEdge line edge)

/-- INDEX_EVENT (R32): the count is captured and reset and the decoder referenced. -/
def execIndexEvent (s : State) : Host.Outcome State Fault Refusal :=
  .next s.encoderIndex

/-- LOW_REQ_EDGE (R113): the line changes, and with it the drive sources that follow it. -/
def execLowReqEdge (edge : Edge) (s : State) : Host.Outcome State Fault Refusal :=
  .next (s.lowRequest edge)

/-- HARD_RESET (R166): every block takes its reset values. -/
def execHardReset (s : State) : Host.Outcome State Fault Refusal :=
  .next s.hardReset

/-- RESETN_RISE (R128): the counters start and BOOT clears the Profile Store. -/
def execResetnRise (s : State) : Host.Outcome State Fault Refusal :=
  .next s.resetnRise

/-- END_OF_BOOT (R166): the part enters STANDBY. -/
def execEndOfBoot (s : State) : Host.Outcome State Fault Refusal :=
  .next s.endOfBoot

/-- REFCLK_EDGE (R124): the reference counter goes up by 1, to 8 at most. -/
def execRefclkEdge (s : State) : Host.Outcome State Fault Refusal :=
  .next s.countReference

end Sys2Proof.Machine
end

