-- ==== Sys2Proof/Machine/RequestCommands.lean ====
section
/-! DEFINITION. The meanings of the request rows of the opcode table, one definition each: the frame the row stands for is taken by the port. -/

namespace Sys2Proof.Machine

/-- SHADE_LIST (R5): a well-formed frame of its kind completes on port `p`. -/
def execShadeList (p : Port) (tag : Byte) (payload : List Byte) (s : State) :
    Host.Outcome State Fault Refusal :=
  .next (s.takeFrame p { tag := tag, kind := RequestKind.shadeList.code, payload := payload })

/-- MOTION (R27): a well-formed frame of its kind completes on port `p`. -/
def execMotion (p : Port) (tag : Byte) (payload : List Byte) (s : State) :
    Host.Outcome State Fault Refusal :=
  .next (s.takeFrame p { tag := tag, kind := RequestKind.motion.code, payload := payload })

/-- MODE (R94): a well-formed frame of its kind completes on port `p`. -/
def execMode (p : Port) (tag : Byte) (payload : List Byte) (s : State) :
    Host.Outcome State Fault Refusal :=
  .next (s.takeFrame p { tag := tag, kind := RequestKind.mode.code, payload := payload })

/-- START (R168): a well-formed frame of RUN_CONTROL with command code 1 completes on port `p`. -/
def execStart (p : Port) (tag : Byte) (rest : List Byte) (s : State) :
    Host.Outcome State Fault Refusal :=
  .next (s.takeFrame p { tag := tag, kind := RequestKind.runControl.code, payload := 1 :: rest })

/-- STOP (R169): a well-formed frame of RUN_CONTROL with command code 2 completes on port `p`. -/
def execStop (p : Port) (tag : Byte) (rest : List Byte) (s : State) :
    Host.Outcome State Fault Refusal :=
  .next (s.takeFrame p { tag := tag, kind := RequestKind.runControl.code, payload := 2 :: rest })

/-- RESTART (R170): a well-formed frame of RUN_CONTROL with command code 3 completes on port `p`. -/
def execRestart (p : Port) (tag : Byte) (rest : List Byte) (s : State) :
    Host.Outcome State Fault Refusal :=
  .next (s.takeFrame p { tag := tag, kind := RequestKind.runControl.code, payload := 3 :: rest })

/-- CONFIG_WRITE (R172): a well-formed frame of its kind completes on port `p`. -/
def execConfigWrite (p : Port) (tag : Byte) (payload : List Byte) (s : State) :
    Host.Outcome State Fault Refusal :=
  .next (s.takeFrame p { tag := tag, kind := RequestKind.configWrite.code, payload := payload })

/-- LAMP_CONTROL (R114): a well-formed frame of its kind completes on port `p`. -/
def execLampControl (p : Port) (tag : Byte) (payload : List Byte) (s : State) :
    Host.Outcome State Fault Refusal :=
  .next (s.takeFrame p { tag := tag, kind := RequestKind.lampControl.code, payload := payload })

/-- RECIPE_WRITE (R59): a well-formed frame of its kind completes on port `p`. -/
def execRecipeWrite (p : Port) (tag : Byte) (payload : List Byte) (s : State) :
    Host.Outcome State Fault Refusal :=
  .next (s.takeFrame p { tag := tag, kind := RequestKind.recipeWrite.code, payload := payload })

/-- PROFILE_OPEN (R51): a well-formed frame of its kind completes on port `p`. -/
def execProfileOpen (p : Port) (tag : Byte) (payload : List Byte) (s : State) :
    Host.Outcome State Fault Refusal :=
  .next (s.takeFrame p { tag := tag, kind := RequestKind.profileOpen.code, payload := payload })

/-- PROFILE_DATA (R52): a well-formed frame of its kind completes on port `p`. -/
def execProfileData (p : Port) (tag : Byte) (payload : List Byte) (s : State) :
    Host.Outcome State Fault Refusal :=
  .next (s.takeFrame p { tag := tag, kind := RequestKind.profileData.code, payload := payload })

/-- PROFILE_CLOSE (R54): a well-formed frame of its kind completes on port `p`. -/
def execProfileClose (p : Port) (tag : Byte) (payload : List Byte) (s : State) :
    Host.Outcome State Fault Refusal :=
  .next (s.takeFrame p { tag := tag, kind := RequestKind.profileClose.code, payload := payload })

/-- STATUS_READ (R142): a well-formed frame of its kind completes on port `p`. -/
def execStatusRead (p : Port) (tag : Byte) (payload : List Byte) (s : State) :
    Host.Outcome State Fault Refusal :=
  .next (s.takeFrame p { tag := tag, kind := RequestKind.statusRead.code, payload := payload })

/-- STATUS_CLEAR_FLAGS (R141): a well-formed frame of STATUS_CLEAR with option FLAGS completes on port `p`. -/
def execStatusClearFlags (p : Port) (tag : Byte) (rest : List Byte) (s : State) :
    Host.Outcome State Fault Refusal :=
  .next (s.takeFrame p { tag := tag, kind := RequestKind.statusClear.code, payload := 1 :: rest })

/-- STATUS_CLEAR_FLAGS_AND_COUNTERS (R141): a well-formed frame of STATUS_CLEAR with option FLAGS_AND_COUNTERS completes on port `p`. -/
def execStatusClearFlagsAndCounters (p : Port) (tag : Byte) (rest : List Byte) (s : State) :
    Host.Outcome State Fault Refusal :=
  .next (s.takeFrame p { tag := tag, kind := RequestKind.statusClear.code, payload := 2 :: rest })

/-- SHADE_READ (R23): a well-formed frame of its kind completes on port `p`. -/
def execShadeRead (p : Port) (tag : Byte) (payload : List Byte) (s : State) :
    Host.Outcome State Fault Refusal :=
  .next (s.takeFrame p { tag := tag, kind := RequestKind.shadeRead.code, payload := payload })

/-- FRAME_READ (R87): a well-formed frame of its kind completes on port `p`. -/
def execFrameRead (p : Port) (tag : Byte) (payload : List Byte) (s : State) :
    Host.Outcome State Fault Refusal :=
  .next (s.takeFrame p { tag := tag, kind := RequestKind.frameRead.code, payload := payload })

/-- PROFILE_READ (R56): a well-formed frame of its kind completes on port `p`. -/
def execProfileRead (p : Port) (tag : Byte) (payload : List Byte) (s : State) :
    Host.Outcome State Fault Refusal :=
  .next (s.takeFrame p { tag := tag, kind := RequestKind.profileRead.code, payload := payload })

/-- RECIPE_READ (R61): a well-formed frame of its kind completes on port `p`. -/
def execRecipeRead (p : Port) (tag : Byte) (payload : List Byte) (s : State) :
    Host.Outcome State Fault Refusal :=
  .next (s.takeFrame p { tag := tag, kind := RequestKind.recipeRead.code, payload := payload })

/-- CONFIG_READ (R173): a well-formed frame of its kind completes on port `p`. -/
def execConfigRead (p : Port) (tag : Byte) (payload : List Byte) (s : State) :
    Host.Outcome State Fault Refusal :=
  .next (s.takeFrame p { tag := tag, kind := RequestKind.configRead.code, payload := payload })

/-- NOTICE_READ (R136): a well-formed frame of its kind completes on port `p`. -/
def execNoticeRead (p : Port) (tag : Byte) (payload : List Byte) (s : State) :
    Host.Outcome State Fault Refusal :=
  .next (s.takeFrame p { tag := tag, kind := RequestKind.noticeRead.code, payload := payload })

/-- NOTICE_CONTROL (R137): a well-formed frame of its kind completes on port `p`. -/
def execNoticeControl (p : Port) (tag : Byte) (payload : List Byte) (s : State) :
    Host.Outcome State Fault Refusal :=
  .next (s.takeFrame p { tag := tag, kind := RequestKind.noticeControl.code, payload := payload })

/-- UNKNOWN_KIND (R151): a well-formed frame whose KIND names no request completes on port `p`. -/
def execUnknownKind (p : Port) (tag kind : Byte) (payload : List Byte) (s : State) :
    Host.Outcome State Fault Refusal :=
  .next (s.takeFrame p { tag := tag, kind := kind, payload := payload })

end Sys2Proof.Machine
end

