-- ==== Sys2Proof/Machine/Dispatch.lean ====
section
/-! DEFINITION. One arm for each command, in the opcode table's order. -/

namespace Sys2Proof.Machine

/-- The effect of a command on everything but the queue of waiting commands. -/
def exec (i : Instr) (s : State) : Host.Outcome State Fault Refusal :=
  match i with
  | .shadeList p tag payload => Sys2Proof.Machine.execShadeList p tag payload s
  | .motion p tag payload => Sys2Proof.Machine.execMotion p tag payload s
  | .mode p tag payload => Sys2Proof.Machine.execMode p tag payload s
  | .start p tag rest => Sys2Proof.Machine.execStart p tag rest s
  | .stop p tag rest => Sys2Proof.Machine.execStop p tag rest s
  | .restart p tag rest => Sys2Proof.Machine.execRestart p tag rest s
  | .configWrite p tag payload => Sys2Proof.Machine.execConfigWrite p tag payload s
  | .lampControl p tag payload => Sys2Proof.Machine.execLampControl p tag payload s
  | .recipeWrite p tag payload => Sys2Proof.Machine.execRecipeWrite p tag payload s
  | .profileOpen p tag payload => Sys2Proof.Machine.execProfileOpen p tag payload s
  | .profileData p tag payload => Sys2Proof.Machine.execProfileData p tag payload s
  | .profileClose p tag payload => Sys2Proof.Machine.execProfileClose p tag payload s
  | .statusRead p tag payload => Sys2Proof.Machine.execStatusRead p tag payload s
  | .statusClearFlags p tag rest => Sys2Proof.Machine.execStatusClearFlags p tag rest s
  | .statusClearFlagsAndCounters p tag rest => Sys2Proof.Machine.execStatusClearFlagsAndCounters p tag rest s
  | .shadeRead p tag payload => Sys2Proof.Machine.execShadeRead p tag payload s
  | .frameRead p tag payload => Sys2Proof.Machine.execFrameRead p tag payload s
  | .profileRead p tag payload => Sys2Proof.Machine.execProfileRead p tag payload s
  | .recipeRead p tag payload => Sys2Proof.Machine.execRecipeRead p tag payload s
  | .configRead p tag payload => Sys2Proof.Machine.execConfigRead p tag payload s
  | .noticeRead p tag payload => Sys2Proof.Machine.execNoticeRead p tag payload s
  | .noticeControl p tag payload => Sys2Proof.Machine.execNoticeControl p tag payload s
  | .unknownKind p tag kind payload => Sys2Proof.Machine.execUnknownKind p tag kind payload s
  | .lengthFault p len => Sys2Proof.Machine.execLengthFault p len s
  | .crcFault p char => Sys2Proof.Machine.execCrcFault p char s
  | .gapTimerExpiry p => Sys2Proof.Machine.execGapTimerExpiry p s
  | .replySent p => Sys2Proof.Machine.execReplySent p s
  | .freshnessTimerExpiry p => Sys2Proof.Machine.execFreshnessTimerExpiry p s
  | .frameStart => Sys2Proof.Machine.execFrameStart s
  | .compositionComplete => Sys2Proof.Machine.execCompositionComplete s
  | .terminalCount => Sys2Proof.Machine.execTerminalCount s
  | .flashTimerExpiry => Sys2Proof.Machine.execFlashTimerExpiry s
  | .windowClose => Sys2Proof.Machine.execWindowClose s
  | .tellPhaseExpiry => Sys2Proof.Machine.execTellPhaseExpiry s
  | .encoderEdge line edge => Sys2Proof.Machine.execEncoderEdge line edge s
  | .indexEvent => Sys2Proof.Machine.execIndexEvent s
  | .lowReqEdge edge => Sys2Proof.Machine.execLowReqEdge edge s
  | .hardReset => Sys2Proof.Machine.execHardReset s
  | .resetnRise => Sys2Proof.Machine.execResetnRise s
  | .endOfBoot => Sys2Proof.Machine.execEndOfBoot s
  | .refclkEdge => Sys2Proof.Machine.execRefclkEdge s
  | .characterReceived p char => Sys2Proof.Machine.execCharacterReceived p char s

end Sys2Proof.Machine
end

