-- ==== Sys2Proof/Machine/Wire.lean ====
section
/-! DEFINITION. Characters as levels of a line: what the transmitter drives on TXD (R143, R152), and which characters the levels of RXD, sampled once a bit time, bring to the receiver (R143, R146). The part's own sampling, bit by bit, passes in time alone and is no command: these functions say which CHARACTER_RECEIVED commands a line brings (assumption 13). -/

namespace Sys2Proof.Machine

/-- The ten levels of a character: the start bit, low, the eight data bits with the least significant first, the stop bit, high (R143). -/
def characterLevels (c : Byte) : List Bool :=
  false :: (List.range 8).map (fun i => c.getLsbD i) ++ [true]

/-! ## TXD -/

/-- The levels of TXD for the reply being sent: its characters follow one another with no idle time between them; none while the queue is empty (R143, R152). -/
def PortState.sendingLevels (p : PortState) : List Bool :=
  (p.sending.getD []).flatMap characterLevels

/-- The level of a port's TXD pin in bit time `n` of the reply being sent: high after its end and while nothing is sent, and in BOOT (R143, R152, R155). -/
def State.txdPin (s : State) (p : Port) (n : Nat) : Bool :=
  s.device == .boot || ((s.ports.get p).sendingLevels[n]?).getD true

/-! ## RXD -/

/-- How a receiver stands to its line: it waits for a falling edge, has sampled some data bits since a start bit, waits for the line to go high after a stop bit sampled low, or, since the end of BOOT, has seen the line high for a number of bit times (R143, R146). -/
inductive LineReceiver where
  | idle
  | taking (bits : List Bool)
  | waitHigh
  | settling (high : Nat)
deriving DecidableEq, Repr

/-- The character of data bits, the least significant first (R143). -/
def characterOfBits (bits : List Bool) : Byte :=
  BitVec.ofNat 8 (bits.foldr (fun b n => flagBit b + 2 * n) 0)

/-- One sample of the line, and the character that it completes: at the stop bit, whatever its level. A whole character time of high, ten bit times, ends the wait after BOOT (R143, R146). -/
def LineReceiver.sample (r : LineReceiver) (level : Bool) : LineReceiver × Option Byte :=
  match r with
  | .idle => (if level then .idle else .taking [], none)
  | .taking bits =>
    if bits.length < 8 then (.taking (bits ++ [level]), none)
    else (if level then .idle else .waitHigh, some (characterOfBits bits))
  | .waitHigh => (if level then .idle else .waitHigh, none)
  | .settling n => (if level then if 9 ≤ n then .idle else .settling (n + 1) else .settling 0, none)

/-- The characters that the levels of a line bring (R143). -/
def lineCharacters (r : LineReceiver) : List Bool → List Byte
  | [] => []
  | level :: rest => (r.sample level).2.toList ++ lineCharacters (r.sample level).1 rest

/-- How the receiver of a port stands to its line as the last command has left it (R143, R146). -/
def PortState.lineReceiver (p : PortState) : LineReceiver :=
  if p.settling = true then .settling 0 else .idle

/-- The commands that the levels of a port's line bring (R143). -/
def State.lineCommands (s : State) (p : Port) (levels : List Bool) : List Instr :=
  (lineCharacters (s.ports.get p).lineReceiver levels).map (Instr.characterReceived p)

end Sys2Proof.Machine
end

