-- ==== Sys2Proof/WellFormed.lean ====
section
/-! DEFINITION. Which commands a link or a line can bring: the bounds of LEN (R144), the KIND codes left for an unknown kind (R158) and the LEN characters that are a fault (R148). -/

namespace Sys2Proof

/-- A payload that a LEN character can announce (R144). -/
def payloadFits (payload : List Byte) : Bool := decide (payload.length ≤ maxPayload)

/-- A command that the part can meet. -/
def Instr.wellFormed (i : Instr) : Bool :=
  match i with
  | .shadeList _ _ pl => payloadFits pl
  | .motion _ _ pl => payloadFits pl
  | .mode _ _ pl => payloadFits pl
  | .start _ _ rest => payloadFits (1 :: rest)
  | .stop _ _ rest => payloadFits (2 :: rest)
  | .restart _ _ rest => payloadFits (3 :: rest)
  | .configWrite _ _ pl => payloadFits pl
  | .lampControl _ _ pl => payloadFits pl
  | .recipeWrite _ _ pl => payloadFits pl
  | .profileOpen _ _ pl => payloadFits pl
  | .profileData _ _ pl => payloadFits pl
  | .profileClose _ _ pl => payloadFits pl
  | .statusRead _ _ pl => payloadFits pl
  | .statusClearFlags _ _ rest => payloadFits (1 :: rest)
  | .statusClearFlagsAndCounters _ _ rest => payloadFits (2 :: rest)
  | .shadeRead _ _ pl => payloadFits pl
  | .frameRead _ _ pl => payloadFits pl
  | .profileRead _ _ pl => payloadFits pl
  | .recipeRead _ _ pl => payloadFits pl
  | .configRead _ _ pl => payloadFits pl
  | .noticeRead _ _ pl => payloadFits pl
  | .noticeControl _ _ pl => payloadFits pl
  | .unknownKind _ _ kind pl => (RequestKind.ofCode kind).isNone && payloadFits pl
  | .lengthFault _ len => decide (maxPayload < len.toNat)
  | .crcFault _ _ => true
  | .gapTimerExpiry _ => true
  | .replySent _ => true
  | .freshnessTimerExpiry _ => true
  | .frameStart => true
  | .compositionComplete => true
  | .terminalCount => true
  | .flashTimerExpiry => true
  | .windowClose => true
  | .tellPhaseExpiry => true
  | .encoderEdge _ _ => true
  | .indexEvent => true
  | .lowReqEdge _ => true
  | .hardReset => true
  | .resetnRise => true
  | .endOfBoot => true
  | .refclkEdge => true
  | .characterReceived _ _ => true

end Sys2Proof
end

