-- ==== Sys2Proof/Safety.lean ====
section
/-! DEFINITION. What counts as a sound state of the part, in the terms the statements use: the invariants the manual states of each block, what a request leaves on the ports, and which rows may be lit. -/

namespace Sys2Proof

/-- Every value of both rows is at most `m`. -/
def TwoRows.atMost {n : Nat} (m : Nat) (x : TwoRows n) : Prop :=
  ∀ r, ∀ v ∈ (x.row r).toList, v ≤ m

namespace Machine

/-! ## What an event leaves on the ports -/

/-- A port whose sticky set has the flags `f` raised and whose nodes `ns` have been set (R134, R140). -/
def PortState.marked (f : Sticky) (ns : List Notice) (x : PortState) : PortState :=
  { x with
    sticky := x.sticky.union f
    nodes :=
      Vector.ofFn fun i =>
        { pending := x.nodes[i].pending || ns.any fun n => n.number == i
          priority := x.nodes[i].priority } }

/-- A port that has taken a request and placed its reply (R150, R152). -/
def PortState.answered (r : Reply) (x : PortState) : PortState :=
  { x with
    receiver := .hunt
    gapTimer := false
    settling := false
    slot := none
    replies := x.replies ++ [r]
    tally := { x.tally with received := x.tally.received + 1 } }

/-- A port that is FRESH with its timer loaded (R153). -/
def PortState.refreshed (timeout : Nat) (x : PortState) : PortState :=
  { x with fresh := true, freshTimer := some timeout }

/-- Every port marked (R134, R140). -/
def State.marked (f : Sticky) (ns : List Notice) (s : State) : State :=
  { s with ports := s.ports.map (PortState.marked f ns) }

/-- The reply of port `p` to a request of kind `k` with a TAG: its KIND is the request's plus 0x80 (R152). -/
def State.answered (p : Port) (tag : Byte) (k : RequestKind) (payload : List Byte) (s : State) :
    State :=
  s.onPort p (PortState.answered { tag := tag, kind := k.code + 0x80, payload := payload })

/-- Port `p` with the receiver in a state outside HUNT, its gap timer running (R146, R147). -/
def State.receiving (p : Port) (r : Receiver) (s : State) : State :=
  s.onPort p fun x => { x with receiver := r, gapTimer := true }

/-- A port that is STALE with its timer stopped (R153). -/
def PortState.staled (x : PortState) : PortState := { x with fresh := false, freshTimer := none }

/-- The Supervisor with its level at SAFE and the tell-tale asked for STEADY where the level was another (R121, R129). `next`: an expiry of its phase timer is the next command (R131). -/
def Supervisor.atSafe (next : Bool) (x : Supervisor) : Supervisor :=
  { x with
    level := .safe
    tell := if x.level = .safe then x.tell else x.tell.request next .steady }

/-- The node that a change to SAFE from a level sets (R121). -/
def noticesToSafe (old : Level) : List Notice := if old = .safe then [] else [.level]

/-- A port that takes the next well-formed frame: the part is out of BOOT and a place of the reply queue is free (R150). -/
abbrev State.canTake (s : State) (p : Port) : Prop :=
  s.device ≠ .boot ∧ (s.ports.get p).places < Config.queueCapacity

/-! ## Fields of two characters (R157) -/

/-- A word of 16 bits as two characters, high byte first (R157). -/
def wordBytes (w : BitVec 16) : List Byte := [w.extractLsb' 8 8, w.extractLsb' 0 8]

/-! ## A CONFIG_WRITE read pair by pair (R172) -/

/-- The value of the last pair that names parameter `q`, none where no pair does. -/
def lastWritten (pairs : List (Nat × Nat)) (q : Param) : Option Nat :=
  (pairs.reverse.find? fun x => paramOfId x.1 == some q).map Prod.snd

/-- The value of parameter `q` after the pairs and before town_off is raised: the last pair's value brought into range, but that frame_period is not written in RUN (R172). -/
def valueAfter (running : Bool) (x : Params) (pairs : List (Nat × Nat)) (q : Param) : Nat :=
  match lastWritten pairs q with
  | some n =>
    if q = .framePeriod ∧ running = true then x.get q
    else max (Config.paramMin q) (min (Config.paramMax q) n)
  | none => x.get q

/-- The code of a pair: 0x15 for no parameter, 0x11 for frame_period in RUN, 0x01 out of range, 0x00 else (R172). -/
def pairCode (running : Bool) (pair : Nat × Nat) : Byte :=
  match paramOfId pair.1 with
  | none => 0x15
  | some q =>
    if q = .framePeriod ∧ running = true then 0x11
    else if pair.2 < Config.paramMin q ∨ Config.paramMax q < pair.2 then 0x01
    else 0x00

/-! ## The Shade Table (R1, R2) -/

/-- A shade entry with every field in its range and Veff and hold count as its state has them (R1, R2). -/
structure EntryWf (e : ShadeEntry) : Prop where
  id_range : 1 ≤ e.id ∧ e.id ≤ 255
  alias_range : ∀ a ∈ e.aliases, 1 ≤ a ∧ a ≤ 255
  alias_count : e.aliases.length ≤ 3
  edges : -128 ≤ e.left ∧ e.left < e.right ∧ e.right ≤ 128
  v_range : e.v ≤ 255
  hold_range : e.hold ≤ 255
  active_veff : e.state = .active → e.veff = e.v
  hold_veff : e.state = .hold → e.veff = e.v ∧ 1 ≤ e.hold
  fading_veff : e.state = .fading → e.v ≤ e.veff ∧ e.veff < 255 ∧ e.hold = 0

/-- The Shade Table as the manual keeps it: at most 16 sound entries in table order, no id twice (R2). -/
structure TableWf (es : List ShadeEntry) : Prop where
  capacity : es.length ≤ 16
  entries : ∀ e ∈ es, EntryWf e
  ordered : es.Pairwise fun a b => a.left < b.left ∨ (a.left = b.left ∧ a.id < b.id)
  ids_once : (es.flatMap fun e => e.id :: e.aliases).Nodup

/-- The Shade Table is sound and hold_frames is in its range (R2, R22). -/
def ShadeInv (s : State) : Prop := s.params.holdFrames ≤ 255 ∧ TableWf s.shades.table

/-! ## The Encoder Decoder (R31, R33) and the swivel (R73) -/

/-- The count is in its range, and a REFERENCED decoder lies within encoder_limit of the centre (R31, R33). -/
def DecoderInv (s : State) : Prop :=
  s.steering.count ≤ 65535 ∧
    (s.steering.decoder = .referenced → centreDistance s.steering.count ≤ s.params.encoderLimit)

/-- S and the latched target lie from −64 to +64 (R40, R73). -/
def SwivelInv (s : State) : Prop :=
  (-64 ≤ s.engine.swivel ∧ s.engine.swivel ≤ 64) ∧
    ∀ x, s.engine.flight = some x → -64 ≤ x.target ∧ x.target ≤ 64

/-! ## The edit session (R49, R50) -/

/-- An open session holds a slot, a pointer and an end mark in their ranges, no enabled layer names its slot, and the CAB port is fresh (R49 to R51, R55). -/
def SessionInv (s : State) : Prop :=
  ∀ x, s.patterns.session = some x →
    x.slot ≤ 3 ∧ x.pointer ≤ 79 ∧ (x.endMark = true → x.pointer = 79) ∧
      s.patterns.slotInUse x.slot = false ∧ s.ports.cab.fresh = true

/-! ## The ports (R147, R150, R152, R153) -/

/-- A port between events: the slot free, at most two replies, every well-formed frame accounted for, the gap timer running outside HUNT and the freshness timer while FRESH (R147, R150, R152, R153). -/
structure PortWf (x : PortState) : Prop where
  slot_free : x.slot = none
  queue : x.replies.length ≤ 2
  accounted : x.tally.received = x.tally.sent + x.replies.length + x.tally.dropped
  gap : x.gapTimer = true ↔ x.receiver ≠ .hunt
  timer : x.freshTimer.isSome = x.fresh

/-- Every port is sound. -/
def LinkInv (s : State) : Prop := ∀ p, PortWf (s.ports.get p)

/-! ## The level and the tell-tale (R118, R119, R129, R130) -/

/-- The input records agree with their owners, the level is the one they give, the requested pattern follows it, and the shown pattern is the requested one but for a held OFF (R118, R119, R129, R130). A VIS change that comes with a frame start may be recorded within it: the record then waits for the frame start that follows, or is ahead of the change that follows (R176, assumption 5). -/
structure LevelInv (s : State) : Prop where
  device : s.supervisor.recDevice = s.device
  vis :
    s.supervisor.recVisFresh = s.ports.vis.fresh ∨ s.compositionNext = true ∨
      s.nextVisChange = some s.supervisor.recVisFresh
  source : s.supervisor.recSource = s.steering.source
  agreement : s.supervisor.recDisagree = s.steering.disagree
  safe :
    s.supervisor.level = .safe ↔
      (s.supervisor.recDevice ≠ .run ∨ s.supervisor.safeLatch = true)
  basic :
    s.supervisor.level = .basic ↔
      (s.supervisor.recDevice = .run ∧ s.supervisor.safeLatch = false ∧
        s.supervisor.recVisFresh = false)
  normal :
    s.supervisor.level = .normal ↔
      (s.supervisor.recDevice = .run ∧ s.supervisor.safeLatch = false ∧
        s.supervisor.recVisFresh = true ∧ s.supervisor.recSource = .chassis ∧
        s.supervisor.recDisagree = false ∧ s.supervisor.clock.state = .ref)
  requested : s.supervisor.tell.requested = patternOfLevel s.supervisor.level
  shown :
    s.supervisor.tell.shown = s.supervisor.tell.requested ∨
      (s.supervisor.tell.requested = .off ∧ s.supervisor.tell.shown.blinks = true ∧
        s.supervisor.tell.firstOn = true)
  firstOn : s.supervisor.tell.firstOn = true → s.supervisor.tell.phaseOn = true
  timer : s.supervisor.tell.timer = blinkHalf s.supervisor.tell.shown

/-! ## Outside RUN (R2, R66, R97, R122, R169) -/

/-- A lamp with both banks zeros and its shadow EMPTY. -/
def Lamp.isDark (l : Lamp) : Prop :=
  l.bankA.values = TwoRows.zero 48 ∧ l.bankB.values = TwoRows.zero 48 ∧ l.shadow = .empty

/-- The part composes nothing: what STOP, RESTART and a hard reset leave (R24, R84, R88, R107, R122). -/
structure Quiet (s : State) : Prop where
  timer : s.engine.timer = none
  flight : s.engine.flight = none
  swivel : s.engine.swivel = 0
  ramp : ∀ k, s.engine.ramp.get k = TwoRows.zero 48
  table : s.shades.table = []
  traffic : s.shades.traffic = false
  lamps : ∀ k, (s.output.lamps.get k).isDark
  flash : s.output.flash = .idle
  request : ∀ d, s.beam.flash ≠ .start d
  latch : s.supervisor.safeLatch = false

/-- The frame timer runs in RUN, and outside RUN the part is quiet (R2, R66). -/
def QuietInv (s : State) : Prop :=
  (s.device = .run → s.engine.timer.isSome = true) ∧ (s.device ≠ .run → Quiet s)

/-! ## Brightness (R80, R102, R110) -/

/-- The profile values, weights and trim that a composition works from are in their ranges, and so are the compare values that it, the flash and the banks hold (R48, R57, R90, R102). -/
structure BrightInv (s : State) : Prop where
  store : ∀ x ∈ s.patterns.store.toList, x.atMost 255
  layers : ∀ l ∈ s.patterns.layers.toList, l.weight ≤ 128
  trim : s.beam.trim ≤ 63
  flashLevel : s.params.flashLevel ≤ 1023
  cycleFlash : s.output.cycleFlashLevel ≤ 1023
  ramp : ∀ k, (s.engine.ramp.get k).atMost 1023
  bankA : ∀ k, (s.output.lamps.get k).bankA.values.atMost 1023
  bankB : ∀ k, (s.output.lamps.get k).bankB.values.atMost 1023
  flightTrim : ∀ x, s.engine.flight = some x → x.trim ≤ 63
  flightLayers : ∀ x, s.engine.flight = some x → ∀ l ∈ x.layers.toList, l.weight ≤ 128
  flightProfiles :
    ∀ x, s.engine.flight = some x → ∀ y ∈ x.profiles.toList, ∀ z, y = some z → z.atMost 255

/-! ## Which rows may be lit (R110) -/

/-- The part may not light an UPPER row: it is outside RUN, or at level SAFE (R110). -/
def State.upperForbidden (s : State) : Prop := s.device ≠ .run ∨ s.supervisor.level = .safe

/-- The row swap under which a lamp's pattern is placed outside normal running: the lamp's own for the LIMP pattern, the active bank's placement record for RETAIN (R111, R112). -/
def State.shownSwap (s : State) (k : Side) : Bool :=
  if s.driveSource k = .retained then (s.output.lamps.get k).activeBank.placement
  else (s.output.lamps.get k).rowSwap

/-- No segment of a lamp's logical UPPER row is lit. -/
def State.upperDark (s : State) (k : Side) : Prop :=
  ∀ p, s.driveCompare k (mapRow (s.shownSwap k) .upper) p = 0

/-! ## Shading (R8, R9, R11, R14) -/

/-- An entry that shades all that an object asks for: its whole width, rows and lamps, at its residual or darker. -/
def ShadeEntry.shades (e : ShadeEntry) (o : ShadeObject) : Prop :=
  e.state = .active ∧ e.left ≤ o.left ∧ o.right ≤ e.right ∧ e.veff ≤ o.v ∧
    (∀ r, o.rows.includes r = true → e.rows.includes r = true) ∧
    (∀ k, o.lamps.includes k = true → e.lamps.includes k = true)

/-! ## A run -/

/-- Every command has an effect: no step of the part stops it. -/
def State.safe (s : State) : Prop := ∃ t, step s = .next t

end Machine

end Sys2Proof
end

