-- ==== Sys2Proof/Certificates/Slice0/Obligations.lean ====
section
/-! DEFINITION. The statements for the provers. `s.canTake p` says that port `p` takes the next well-formed frame (out of BOOT, a place of the reply queue free); `answered` is what a reply leaves on a port, `marked` what a raised sticky flag and a notice leave on all three. -/

open Sys2Proof Sys2Proof.Machine

/-! ## Steps and resets -/

/-- The step of the queue: the model's choice of how a block takes its commands (assumptions 1 and 17). -/
def Obligations.StepTakesTheFrontCommand : Prop :=
  ∀ (s : State) (c : Instr) (rest : List Instr),
    s.pending = c :: rest → step s = exec c { s with pending := rest }

/-- No command stops the part, and each step takes one command of the queue. That the part idles on an empty queue, that a command whose event cannot come changes nothing but the queue, and that HARD_RESET keeps the commands behind it are the model's choices (assumptions 1, 3 and 22). -/
def Obligations.EveryStepTakesOneCommand : Prop :=
  ∀ s : State,
    (s.pending = [] → step s = .next s) ∧ ∃ t, step s = .next t ∧ t.pending = s.pending.tail

/-- The model's choice for an event that cannot come in the state it is sent in: nothing happens (assumption 3). -/
def Obligations.EventsThatCannotComeChangeNothing : Prop :=
  ∀ s : State,
    (s.engine.timer = none → exec .frameStart s = .next s) ∧
    (s.engine.flight = none → exec .compositionComplete s = .next s) ∧
    (s.resetn = false →
      exec .terminalCount s = .next s ∧ exec .windowClose s = .next s ∧
        exec .refclkEdge s = .next s ∧ exec .indexEvent s = .next s) ∧
    ((∀ d, s.output.flash ≠ .showing d) → exec .flashTimerExpiry s = .next s) ∧
    (s.supervisor.tell.shown.blinks = false → s.supervisor.tell.replaced = false →
      exec .tellPhaseExpiry s = .next s) ∧
    (s.resetn = true → exec .resetnRise s = .next s) ∧
    ((s.device ≠ .boot ∨ s.resetn = false) → exec .endOfBoot s = .next s) ∧
    (∀ p, (s.ports.get p).gapTimer = false → exec (.gapTimerExpiry p) s = .next s) ∧
    (∀ p, (s.ports.get p).fresh = false → exec (.freshnessTimerExpiry p) s = .next s) ∧
    (∀ p, (s.ports.get p).replies = [] → exec (.replySent p) s = .next s) ∧
    (∀ p c,
      (s.device = .boot → exec (.characterReceived p c) s = .next s) ∧
      ((s.device = .boot ∨ c.toNat ≤ 60 ∨
          ∀ tag kind, (s.ports.get p).receiver ≠ .headerLen tag kind) →
        exec (.lengthFault p c) s = .next s) ∧
      ((s.device = .boot ∨
          ∀ tag kind taken high, (s.ports.get p).receiver ≠ .checkLow tag kind taken high) →
        exec (.crcFault p c) s = .next s))

/-- A hard reset leaves every block at its reset values, every timer stopped, TELL lit, the notice lines asserted, so low, and every segment line low. That the levels of ENC_A, ENC_B and LOW_REQ and the queue stay is the model's (assumptions 4 and 22), and so are the values of the fields of assumption 11. -/
def Obligations.HardResetGivesTheResetValues : Prop :=
  ∀ s : State, ∃ t,
    exec .hardReset s = .next t ∧
    t.device = .boot ∧ t.resetn = false ∧
    (∀ q, t.params.get q = Config.paramDefault q) ∧
    t.shades = { table := [], traffic := false, ignored := 0, coalesced := 0 } ∧
    t.steering =
      { latch := { steer := 0, speed := 0, reverse := false, valid := false }
        town := false, count := 32768, decoder := .unreferenced, slips := 0
        disagreeRun := 0, agreeRun := 0, disagree := false, source := .none
        encA := s.steering.encA, encB := s.steering.encB } ∧
    (∀ n r (c : Fin 80), ((t.patterns.slotRows n).row r)[c] = 0) ∧
    (∀ i : Fin 8,
      t.patterns.layers[i] =
        { enabled := false, slot := 0, mask := ⟨false, false, false⟩
          value := ⟨false, false, false⟩, op := .max, weight := 0 }) ∧
    t.patterns.session = none ∧
    t.beam = { mode := .off, trim := 63, weather := false, flash := .none } ∧
    t.engine =
      { timer := none, flight := none, swivel := 0
        ramp := { left := TwoRows.zero 48, right := TwoRows.zero 48 }
        frameCount := 0, repeatCount := 0, consecRepeats := 0
        addSat := false, swivelClip := false, riseLimited := 0 } ∧
    (∀ k,
      t.output.lamps.get k =
        { enabled := true, fallback := .limp, colReverse := false, rowSwap := false, active := .a
          bankA := { values := TwoRows.zero 48, placement := false }
          bankB := { values := TwoRows.zero 48, placement := false }
          shadow := .empty }) ∧
    t.output.pwmState = 0 ∧ t.output.flash = .idle ∧ t.output.lowReq = s.output.lowReq ∧
    t.supervisor.level = .safe ∧ t.supervisor.safeLatch = false ∧
    t.supervisor.recDevice = .boot ∧ t.supervisor.recVisFresh = false ∧
    t.supervisor.recSource = .none ∧ t.supervisor.recDisagree = false ∧
    t.supervisor.clock = { refCount := 0, internalCount := 0, state := .unknown, goodRun := 0 } ∧
    t.supervisor.tell.requested = .steady ∧ t.supervisor.tell.shown = .steady ∧
    t.supervisor.tell.timer = none ∧ t.supervisor.tell.replaced = false ∧ t.tellPin = true ∧
    t.restartFlags = ⟨false, false, false, false, false, false⟩ ∧
    (∀ p,
      (t.ports.get p).receiver = .hunt ∧ (t.ports.get p).gapTimer = false ∧
      (t.ports.get p).settling = false ∧ (∀ n, t.txdPin p n = true) ∧
      (t.ports.get p).slot = none ∧
      (t.ports.get p).replies = [] ∧ (t.ports.get p).sending = none ∧
      (t.ports.get p).gapErrors = 0 ∧ (t.ports.get p).lengthErrors = 0 ∧
      (t.ports.get p).crcErrors = 0 ∧ (t.ports.get p).dropped = 0 ∧
      (t.ports.get p).fresh = false ∧ (t.ports.get p).freshTimer = none ∧
      (t.ports.get p).sticky = ⟨false, false, false, false, false, false⟩ ∧
      (∀ n : Fin 8,
        (t.ports.get p).nodes[n] = if n = 7 then ⟨true, 1⟩ else ⟨false, 0⟩) ∧
      (t.ports.get p).lineAsserted = true ∧ t.noticePin p = false) ∧
    (∀ k r c n, t.segmentLine k r c n = false) ∧
    t.pending = s.pending ∧ t.choices = s.choices

/-- The invariants that steps keep hold of the state after reset. -/
def Obligations.InvariantsHoldAtReset : Prop :=
  ShadeInv State.reset ∧ DecoderInv State.reset ∧ SwivelInv State.reset ∧
    SessionInv State.reset ∧ LinkInv State.reset ∧ LevelInv State.reset ∧
    QuietInv State.reset ∧ BrightInv State.reset ∧
    ∃ t, exec .hardReset State.reset = .next t ∧ t = State.reset

/-- RESETN rises and BOOT clears the store; at its end the part enters STANDBY, with the level still SAFE and no notice set, and each receiver waits for a quiet line. -/
def Obligations.PowerUpReachesStandby : Prop :=
  ∀ s : State,
    (s.resetn = false →
      exec .resetnRise s =
        .next
          { s with
            resetn := true
            patterns := { s.patterns with store := Vector.replicate 4 (TwoRows.zero 80) } }) ∧
    (LevelInv s → s.device = .boot → s.resetn = true →
      s.supervisor.level = .safe ∧
        exec .endOfBoot s =
          .next
            { s with
              device := .standby
              supervisor := { s.supervisor with recDevice := .standby }
              ports := s.ports.map fun (x : PortState) => { x with settling := true } })

/-! ## RUN_CONTROL -/

/-- START is taken in STANDBY with a layer enabled and refused else. It enters RUN, the level is computed, and the first frame start begins a composition from S = 0 and an empty table. A RUN_CONTROL of a code other than START's, STOP's and RESTART's is refused and changes nothing. That the level is computed before that frame start's latch is DEDUCED (assumption 20). -/
def Obligations.StartEntersRun : Prop :=
  ∀ (tag : Byte) (s : State), s.canTake .cab →
    (s.device = .standby → (∃ l ∈ s.patterns.layers.toList, l.enabled = true) →
      ∃ t,
        exec (.start .cab tag []) s = .next t ∧
        t =
          (({ s with
              device := .run
              supervisor := { s.supervisor with recDevice := .run } }.recompute).frameStart).answered
            .cab tag .runControl [0x00, 0x02] ∧
        t.device = .run ∧ t.engine.timer = some s.params.framePeriod ∧
        (QuietInv s →
          t.engine.flight.isSome = true ∧ t.engine.swivel = 0 ∧ t.shades.table = [] ∧
            t.supervisor.level ≠ .safe)) ∧
    ((s.device = .run ∨ ∀ l ∈ s.patterns.layers.toList, l.enabled = false) →
      exec (.start .cab tag []) s = .next (s.answered .cab tag .runControl [0x11])) ∧
    ∀ code : Byte, code ≠ 1 → code ≠ 2 → code ≠ 3 →
      s.takeFrame .cab { tag := tag, kind := 0x04, payload := [code] } =
        s.answered .cab tag .runControl [0x15]

/-- STOP in RUN: every block that R169 names is cleared, everything else is kept; in STANDBY it is refused. -/
def Obligations.StopClearsTheBeam : Prop :=
  ∀ (tag : Byte) (s : State), s.canTake .cab →
    (s.device = .run →
      exec (.stop .cab tag []) s =
        .next
          (({ s with
              device := .standby
              shades := { s.shades with table := [], traffic := false }
              beam := { s.beam with flash := .none }
              engine :=
                { s.engine with
                  timer := none
                  flight := none
                  swivel := 0
                  ramp := { left := TwoRows.zero 48, right := TwoRows.zero 48 }
                  consecRepeats := 0 }
              output :=
                { s.output with
                  flash := .idle
                  lamps :=
                    s.output.lamps.map fun (l : Lamp) =>
                      { l with
                        bankA := { values := TwoRows.zero 48, placement := l.rowSwap }
                        bankB := { values := TwoRows.zero 48, placement := l.rowSwap }
                        shadow := .empty } }
              supervisor :=
                { s.supervisor with
                  recDevice := .standby
                  safeLatch := false }.atSafe s.tellExpiryNext }.marked
            Sticky.clear (noticesToSafe s.supervisor.level)).answered
            .cab tag .runControl [0x00, 0x01])) ∧
    (s.device = .standby →
      exec (.stop .cab tag []) s = .next (s.answered .cab tag .runControl [0x11]))

/-- RESTART, from STANDBY or RUN: what STOP clears, and the Motion Latch, the held source, DISAGREE with its runs, the session, the sticky sets and the frame record; RESTART is set pending. In the sticky sets stay the flags of a completion that comes with the RESTART and whose raising comes after the clearing (assumption 24). -/
def Obligations.RestartClearsTheSteeringToo : Prop :=
  ∀ (tag : Byte) (s : State), s.canTake .cab →
    exec (.restart .cab tag []) s =
      .next
        (({ s with
            device := .standby
            shades := { s.shades with table := [], traffic := false }
            steering :=
              { s.steering with
                latch := { steer := 0, speed := 0, reverse := false, valid := false }
                disagreeRun := 0
                agreeRun := 0
                disagree := false
                source := .none }
            patterns := { s.patterns with session := none }
            beam := { s.beam with flash := .none }
            engine :=
              { timer := none, flight := none, swivel := 0
                ramp := { left := TwoRows.zero 48, right := TwoRows.zero 48 }
                frameCount := 0, repeatCount := 0, consecRepeats := 0
                addSat := false, swivelClip := false, riseLimited := 0 }
            output :=
              { s.output with
                flash := .idle
                lamps :=
                  s.output.lamps.map fun (l : Lamp) =>
                    { l with
                      bankA := { values := TwoRows.zero 48, placement := l.rowSwap }
                      bankB := { values := TwoRows.zero 48, placement := l.rowSwap }
                      shadow := .empty } }
            supervisor :=
              { s.supervisor with
                recDevice := .standby
                safeLatch := false
                recSource := .none
                recDisagree := false }.atSafe s.tellExpiryNext
            ports := s.ports.map fun (x : PortState) => { x with sticky := s.restartFlags }
            restartFlags := Sticky.clear }.marked
          Sticky.clear (noticesToSafe s.supervisor.level ++ [Notice.restart])).answered
          .cab tag .runControl [0x00, 0x01])

/-! ## Parameters -/

/-- A CONFIG_WRITE of any whole number of pairs: each parameter takes its last pair's value brought into range, town_off is then raised, encoder_limit tested, and each pair gets its code. -/
def Obligations.ConfigWriteSetsParameters : Prop :=
  ∀ (tag : Byte) (payload : List Byte) (s : State),
    s.canTake .cab → payload.length % 3 = 0 → 3 ≤ payload.length → payload.length ≤ 30 →
    ∀ (pairs : List (Nat × Nat)) (running raised : Bool) (codes : List Byte),
      pairs = readPairs payload → running = decide (s.device = .run) →
      raised =
        decide (valueAfter running s.params pairs .townOff < valueAfter running s.params pairs .townOn) →
      codes = pairs.map (pairCode running) →
      ∃ ps : Params,
        (∀ q,
          ps.get q =
            if q = .townOff ∧ raised = true then valueAfter running s.params pairs .townOn
            else valueAfter running s.params pairs q) ∧
        exec (.configWrite .cab tag payload) s =
          .next
            (({ s with
                params := ps
                steering :=
                  { s.steering with
                    decoder :=
                      if (∃ x ∈ pairs, x.1 = 0x11) ∧ s.steering.decoder = DecoderState.referenced ∧
                          ps.encoderLimit < ((s.steering.count : Int) - 32768).natAbs then .faulted
                      else s.steering.decoder } }.marked
              { Sticky.clear with inputClamp := codes.contains 0x01 || raised } []).answered
              .cab tag .configWrite
              ((if 0x15 ∈ codes ∨ 0x11 ∈ codes then 0x02
                else if 0x01 ∈ codes ∨ raised = true then 0x01 else 0x00) :: codes))

/-- CONFIG_READ: each id with its parameter's value, 0xFFFF for no parameter, and nothing changed. -/
def Obligations.ConfigReadGivesTheParameters : Prop :=
  ∀ (p : Port) (tag : Byte) (ids : List Byte) (s : State),
    s.canTake p → 1 ≤ ids.length → ids.length ≤ 10 →
    exec (.configRead p tag ids) s =
      .next
        (s.answered p tag .configRead
          ((if ∃ id ∈ ids, paramOfId id.toNat = none then 0x02 else 0x00) ::
            ids.flatMap fun id =>
              match paramOfId id.toNat with
              | some q => id :: wordBytes (BitVec.ofNat 16 (s.params.get q))
              | none => [id, 0xFF, 0xFF]))

/-! ## The links -/

/-- The characters of a frame, one command each, do what the frame's request row does as one command: for every frame of every request row, SYNC first and the CRC last. The levels of a line bring its characters: each is a low start bit, eight data bits with the least significant first and a stop bit that is taken at either level, a low one being followed by a wait for the line to go high; since the end of BOOT none is found before the line has been high for ten bit times. -/
def Obligations.FrameReceivedByCharacters : Prop :=
  (∀ c : Byte,
    characterLevels c =
      [ false, c.getLsbD 0, c.getLsbD 1, c.getLsbD 2, c.getLsbD 3, c.getLsbD 4, c.getLsbD 5
      , c.getLsbD 6, c.getLsbD 7, true ]) ∧
  (∀ (cs : List Byte) (rest : List Bool),
    lineCharacters .idle (cs.flatMap characterLevels ++ rest) = cs ++ lineCharacters .idle rest) ∧
  (∀ (c : Byte) (low : Nat) (rest : List Bool),
    lineCharacters .idle
        ((characterLevels c).dropLast ++ List.replicate (low + 1) false ++ true :: rest) =
      c :: lineCharacters .idle rest) ∧
  (∀ (s : State) (p : Port) (levels rest : List Bool),
    ((s.ports.get p).settling = false →
      s.lineCommands p levels = (lineCharacters .idle levels).map (Instr.characterReceived p)) ∧
    ((s.ports.get p).settling = true →
      (¬List.replicate 10 true <:+: levels → s.lineCommands p levels = []) ∧
        s.lineCommands p (List.replicate 10 true ++ rest) =
          (lineCharacters .idle rest).map (Instr.characterReceived p))) ∧
  ∀ (i : Instr) (p : Port) (f : Frame) (s : State),
    requestFrame i = some (p, f) → i.wellFormed = true →
    s.device ≠ .boot → (s.ports.get p).receiver = .hunt → (s.ports.get p).settling = false →
    ∀ q : State,
      q = { s with pending := (wireFrame f).map (Instr.characterReceived p) ++ s.pending } →
      Host.Core.run Sys2Proof.core (wireFrame f).length q = exec i s

/-- The frame check: the register of R145 bit by bit, over TAG, KIND, LEN and payload without SYNC, sent high byte first; run over a frame and its CRC it ends at 0, as the receiver checks it, and a reply is sent with it. -/
def Obligations.FrameCheckLeavesZero : Prop :=
  crcOf [] = 0xFFFF ∧
    (∀ (cs : List Byte) (c : Byte),
      crcOf (cs ++ [c]) =
        [c.getLsbD 7, c.getLsbD 6, c.getLsbD 5, c.getLsbD 4, c.getLsbD 3, c.getLsbD 2, c.getLsbD 1,
            c.getLsbD 0].foldl
          (fun (r : CrcWord) bit => if r.getLsbD 15 = bit then r <<< 1 else (r <<< 1) ^^^ 0x1021) (crcOf cs)) ∧
    (∀ f : Frame,
      wireFrame f =
        0xC3 :: f.tag :: f.kind :: BitVec.ofNat 8 f.payload.length :: f.payload ++
          wordBytes (crcOf (f.tag :: f.kind :: BitVec.ofNat 8 f.payload.length :: f.payload)) ∧
      crcOf ((wireFrame f).drop 1) = 0 ∧
      ∀ high low : Byte,
        crcPasses f high low = true ↔
          crcOf (f.tag :: f.kind :: BitVec.ofNat 8 f.payload.length :: f.payload ++ [high, low]) =
            0) ∧
    ∀ (x : PortState) (r : Reply) (rest : List Reply), x.replies = r :: rest →
      x.sending = some (wireFrame { tag := r.tag, kind := r.kind, payload := r.payload })

/-- The receiver takes each character in the state it finds, by the table of R146. While it still waits for a quiet line after BOOT, a character is not taken and the wait goes on, or it came after the wait and is taken in HUNT: a free value (assumption 26). -/
def Obligations.CharacterMovesTheReceiver : Prop :=
  (∀ (p : Port) (c : Byte) (s : State), s.device ≠ .boot → (s.ports.get p).settling = true →
    exec (.characterReceived p c) s = .next { s with choices := s.choices + 1 } ∨
      exec (.characterReceived p c) s =
        .next
          ({ s with choices := s.choices + 1 }.onPort p fun x =>
            { x with
              receiver := if c = 0xC3 then .headerTag else .hunt
              gapTimer := decide (c = 0xC3)
              settling := false })) ∧
  ∀ (p : Port) (c : Byte) (s : State), s.device ≠ .boot → (s.ports.get p).settling = false →
    ((s.ports.get p).receiver = .hunt →
      exec (.characterReceived p c) s =
        .next (if c = 0xC3 then s.receiving p .headerTag else s)) ∧
    ((s.ports.get p).receiver = .headerTag →
      exec (.characterReceived p c) s = .next (s.receiving p (.headerKind c))) ∧
    (∀ tag, (s.ports.get p).receiver = .headerKind tag →
      exec (.characterReceived p c) s = .next (s.receiving p (.headerLen tag c))) ∧
    (∀ tag kind, (s.ports.get p).receiver = .headerLen tag kind →
      (60 < c.toNat → exec (.characterReceived p c) s = exec (.lengthFault p c) s) ∧
      (c.toNat = 0 →
        exec (.characterReceived p c) s = .next (s.receiving p (.checkHigh tag kind []))) ∧
      (1 ≤ c.toNat → c.toNat ≤ 60 →
        exec (.characterReceived p c) s =
          .next (s.receiving p (.payload tag kind [] c.toNat)))) ∧
    (∀ tag kind taken left, (s.ports.get p).receiver = .payload tag kind taken left →
      (left = 1 →
        exec (.characterReceived p c) s =
          .next (s.receiving p (.checkHigh tag kind (taken ++ [c])))) ∧
      (1 < left →
        exec (.characterReceived p c) s =
          .next (s.receiving p (.payload tag kind (taken ++ [c]) (left - 1))))) ∧
    (∀ tag kind taken, (s.ports.get p).receiver = .checkHigh tag kind taken →
      exec (.characterReceived p c) s = .next (s.receiving p (.checkLow tag kind taken c))) ∧
    (∀ tag kind taken high, (s.ports.get p).receiver = .checkLow tag kind taken high →
      (crcOf (tag :: kind :: BitVec.ofNat 8 taken.length :: taken ++ [high, c]) ≠ 0 →
        exec (.characterReceived p c) s = exec (.crcFault p c) s) ∧
      (∀ i,
        requestFrame i = some (p, { tag := tag, kind := kind, payload := taken }) →
        crcOf (tag :: kind :: BitVec.ofNat 8 taken.length :: taken ++ [high, c]) = 0 →
        exec (.characterReceived p c) s = exec i s))

/-- The three faults of a receiver abandon the frame and count once each, and the end of a reply takes the oldest reply from the queue. TXD carries the characters of the oldest reply with no idle time between them, and is high after them, with no reply queued and in BOOT. -/
def Obligations.LinkEventsCountAndSend : Prop :=
  ∀ (p : Port) (c : Byte) (s : State),
    (∀ tag kind, s.device ≠ .boot → (s.ports.get p).receiver = .headerLen tag kind →
      60 < c.toNat →
      exec (.lengthFault p c) s =
        .next
          (s.onPort p fun x =>
            { x with
              receiver := .hunt, gapTimer := false
              lengthErrors := min 65535 (x.lengthErrors + 1) })) ∧
    (∀ tag kind taken high, s.device ≠ .boot →
      (s.ports.get p).receiver = .checkLow tag kind taken high →
      crcOf (tag :: kind :: BitVec.ofNat 8 taken.length :: taken ++ [high, c]) ≠ 0 →
      exec (.crcFault p c) s =
        .next
          (s.onPort p fun x =>
            { x with
              receiver := .hunt, gapTimer := false
              crcErrors := min 65535 (x.crcErrors + 1) })) ∧
    ((s.ports.get p).gapTimer = true →
      exec (.gapTimerExpiry p) s =
        .next
          (s.onPort p fun x =>
            { x with
              receiver := .hunt, gapTimer := false
              gapErrors := min 65535 (x.gapErrors + 1) })) ∧
    (∀ r rest, (s.ports.get p).replies = r :: rest →
      exec (.replySent p) s =
        .next
          (s.onPort p fun x =>
            { x with replies := rest, tally := { x.tally with sent := x.tally.sent + 1 } })) ∧
    (∀ n, (s.device = .boot ∨ (s.ports.get p).replies = []) → s.txdPin p n = true) ∧
    ∀ (r : Reply) (rest : List Reply) (chars : List Byte), s.device ≠ .boot →
      (s.ports.get p).replies = r :: rest →
      chars = wireFrame { tag := r.tag, kind := r.kind, payload := r.payload } →
      (∀ n, 10 * chars.length ≤ n → s.txdPin p n = true) ∧
        ∀ (i : Fin chars.length) (j : Nat), j < 10 →
          s.txdPin p (10 * i.val + j) = (characterLevels chars[i]).getD j true

/-- A frame that comes during BOOT is lost uncounted, and one that finds both places of the reply queue held is dropped and counted: neither has any other effect. -/
def Obligations.LostFramesHaveNoEffect : Prop :=
  ∀ (i : Instr) (p : Port) (f : Frame) (s : State), requestFrame i = some (p, f) →
    (s.device = .boot → exec i s = .next s) ∧
    (s.device ≠ .boot →
      2 ≤ (s.ports.get p).replies.length + (if (s.ports.get p).slot = none then 0 else 1) →
      exec i s =
        .next
          (s.onPort p fun x =>
            { x with
              receiver := .hunt
              gapTimer := false
              settling := false
              dropped := min 65535 (x.dropped + 1)
              tally :=
                { x.tally with received := x.tally.received + 1, dropped := x.tally.dropped + 1 } }))

/-- The three dispatch checks in their order: an unknown KIND, a port that the kind is not permitted on, a LEN that it does not allow, with the table of R158 row by row. A request refused by one has no effect but its reply. -/
def Obligations.DispatchChecksInOrder : Prop :=
  (∀ (i : Instr) (p : Port) (f : Frame) (s : State),
    requestFrame i = some (p, f) → s.canTake p →
    (RequestKind.ofCode f.kind = none →
      exec i s = .next (s.onPort p (PortState.answered ⟨f.tag, f.kind + 0x80, [0x17]⟩))) ∧
    (∀ k, RequestKind.ofCode f.kind = some k →
      (k.permitted p = false →
        exec i s = .next (s.onPort p (PortState.answered ⟨f.tag, f.kind + 0x80, [0x10]⟩))) ∧
      (k.permitted p = true → k.lenAllowed f.payload.length = false →
        exec i s = .next (s.onPort p (PortState.answered ⟨f.tag, f.kind + 0x80, [0x16]⟩))))) ∧
  (∀ (p : Port) (tag kind : Byte) (payload : List Byte) (s : State),
    s.canTake p → (Instr.unknownKind p tag kind payload).wellFormed = true →
    exec (.unknownKind p tag kind payload) s =
      .next (s.onPort p (PortState.answered ⟨tag, kind + 0x80, [0x17]⟩))) ∧
  (∀ (k : RequestKind) (p : Port),
    k.permitted p = true ↔
      (k.code = 0x01 → p = .vis) ∧ (k.code = 0x02 → p = .chs) ∧
        (0x03 ≤ k.code.toNat → k.code.toNat ≤ 0x0A → p = .cab)) ∧
  (∀ (kind : Byte) (k : RequestKind),
    RequestKind.ofCode kind = some k ↔
      (kind, k) ∈
        ([ (0x01, .shadeList), (0x02, .motion), (0x03, .mode), (0x04, .runControl)
         , (0x05, .configWrite), (0x06, .lampControl), (0x07, .recipeWrite), (0x08, .profileOpen)
         , (0x09, .profileData), (0x0A, .profileClose), (0x10, .statusRead), (0x11, .statusClear)
         , (0x12, .shadeRead), (0x13, .frameRead), (0x14, .profileRead), (0x15, .recipeRead)
         , (0x16, .configRead), (0x17, .noticeRead), (0x18, .noticeControl) ] :
          List (Byte × RequestKind))) ∧
  (∀ n : Nat,
    (∀ row ∈
        ([ (.motion, 5), (.mode, 3), (.runControl, 1), (.lampControl, 3), (.profileOpen, 3)
         , (.profileClose, 0), (.statusRead, 0), (.statusClear, 1), (.shadeRead, 2), (.frameRead, 4)
         , (.profileRead, 4), (.recipeRead, 0), (.noticeRead, 0), (.noticeControl, 10) ] :
          List (RequestKind × Nat)),
      row.1.lenAllowed n = true ↔ n = row.2) ∧
    (RequestKind.shadeList.lenAllowed n = true ↔ ∃ objects ≤ 12, n = 5 * objects) ∧
    (RequestKind.configWrite.lenAllowed n = true ↔ ∃ pairs ≤ 10, 1 ≤ pairs ∧ n = 3 * pairs) ∧
    (RequestKind.recipeWrite.lenAllowed n = true ↔ ∃ records ≤ 8, 1 ≤ records ∧ n = 5 * records) ∧
    (RequestKind.profileData.lenAllowed n = true ↔ 1 ≤ n ∧ n ≤ 60) ∧
    (RequestKind.configRead.lenAllowed n = true ↔ 1 ≤ n ∧ n ≤ 10))

/-- Every step keeps the ports sound; in particular the replies sent, the replies queued and the requests dropped of a port sum to the well-formed frames it received. -/
def Obligations.StepsKeepThePortsSound : Prop :=
  ∀ s t : State, LinkInv s → step s = .next t → LinkInv t

/-- A fresh port's timer runs out: the port becomes STALE, STALE is set on all ports, and the blocks that depend on the port take the change; the Supervisor may take that of the VIS port only within the frame start that comes with it, a free value (assumption 5). `visChange` names the commands that change the VIS port's freshness. -/
def Obligations.FreshnessExpiryTellsTheDependents : Prop :=
  ∀ s : State,
    (s.ports.vis.fresh = true →
      ∃ waits : Bool,
        (waits = true →
          s.pending.head? = some .frameStart ∧ s.engine.timer.isSome = true ∧
            s.engine.flight = none) ∧
        ∀ released : State,
          released =
            { s with
              shades :=
                { s.shades with
                  table :=
                    s.shades.table.filterMap fun (e : ShadeEntry) =>
                      if e.state ≠ ShadeState.active then some e
                      else if s.params.holdFrames = 0 ∨ e.cls = RoadClass.sign then
                        if e.v < 255 then some { e with state := .fading, hold := 0, veff := e.v }
                        else none
                      else
                        some { e with state := .hold, hold := s.params.holdFrames, veff := e.v } } } →
          exec (.freshnessTimerExpiry .vis) s =
            .next
              (((if waits = true then released
                  else
                    { released with
                      supervisor := { s.supervisor with recVisFresh := false } }.recompute).marked
                Sticky.clear [.stale]).onPort
                .vis PortState.staled)) ∧
    (s.ports.chs.fresh = true →
      exec (.freshnessTimerExpiry .chs) s =
        .next
          (({ s with
              steering :=
                { s.steering with latch := { s.steering.latch with valid := false } } }.marked
            Sticky.clear [.stale]).onPort
            .chs PortState.staled)) ∧
    (s.ports.cab.fresh = true →
      exec (.freshnessTimerExpiry .cab) s =
        .next
          (({ s with
              beam := { s.beam with mode := if s.beam.mode = BeamMode.high then .auto else s.beam.mode }
              patterns := { s.patterns with session := none } }.marked
            Sticky.clear (if s.patterns.session.isSome = true then [.stale, .edit] else [.stale])).onPort
            .cab PortState.staled)) ∧
    ∀ (c : Instr) (t : State), c ≠ .hardReset → exec c s = .next t →
      (∀ b, s.visChange c = some b → t.ports.vis.fresh = b ∧ s.ports.vis.fresh ≠ b) ∧
        (s.visChange c = none → t.ports.vis.fresh = s.ports.vis.fresh)

/-! ## Shades -/

/-- A SHADE_LIST refreshes the VIS port in STANDBY and in RUN; it is merged and answered with its counts in RUN, and refused with the table untouched in STANDBY. A stale port becomes fresh with it, which the Supervisor may take only within the frame start that comes with it, a free value (assumption 5). -/
def Obligations.ShadeListIsMergedInRun : Prop :=
  ∀ (tag : Byte) (payload : List Byte) (s : State),
    s.canTake .vis → payload.length % 5 = 0 → payload.length ≤ 60 →
    ∃ waits : Bool,
      (waits = true →
        s.pending.head? = some .frameStart ∧ s.engine.timer.isSome = true ∧
          s.engine.flight = none) ∧
    ∀ heard : State,
    heard =
      (if s.ports.vis.fresh = true then s
        else
          (if waits = true then s
            else { s with supervisor := { s.supervisor with recVisFresh := true } }.recompute).marked
            Sticky.clear [.stale]) →
    (s.device = .run →
      ∀ m, m = mergeList s.params.holdFrames (readObjects payload) s.shades.table →
      exec (.shadeList .vis tag payload) s =
        .next
          ((({ heard with
                shades :=
                  { table := m.table
                    traffic := s.shades.traffic
                    ignored := min 65535 (s.shades.ignored + m.ignored)
                    coalesced := min 65535 (s.shades.coalesced + m.coalesced) } }.marked
              { Sticky.clear with
                inputClamp := m.clamped
                coalesced := decide (0 < m.coalesced)
                objIgnored := decide (0 < m.ignored) }
              (if 0 < m.coalesced then [.shade] else [])).onPort
            .vis (PortState.refreshed s.params.visTimeout)).answered
            .vis tag .shadeList
            [if 0 < m.ignored then 0x02 else if m.clamped = true then 0x01 else 0x00,
              BitVec.ofNat 8 m.matched, BitVec.ofNat 8 m.inserted, BitVec.ofNat 8 m.coalesced,
              BitVec.ofNat 8 m.ignored, BitVec.ofNat 8 m.table.length])) ∧
    (s.device = .standby →
      exec (.shadeList .vis tag payload) s =
        .next
          ((heard.onPort .vis (PortState.refreshed s.params.visTimeout)).answered
            .vis tag .shadeList [0x11]))

/-- The four counts of a merge sum to the objects of the list, and an empty list counts nothing and keeps no entry ACTIVE. -/
def Obligations.ListCountsSumToTheObjects : Prop :=
  ∀ (hold : Nat) (objects : List RawObject) (table : List ShadeEntry) (m : Merge),
    m = mergeList hold objects table →
    m.matched + m.inserted + m.coalesced + m.ignored = objects.length ∧
      (objects = [] → ∀ e ∈ m.table, e.state ≠ .active)

/-- The steps of a merge. Step 1 keeps an object unless its id is 0 or that of an earlier object, its width 0, its class code 3 or its lamps code 0, and clamps its right edge at 128. Step 2 gives an object to the first entry that its id reaches, which takes its fields, or combines them where an object of the list has matched it before. Step 3 releases the ACTIVE entries that none has matched. Step 4 for one object: appended while there is room; else in the place of the first of the FADING entries with the highest Veff; else coalesced into the first of the entries at the smallest gap. Step 5 puts the entries in table order. -/
def Obligations.AnObjectIsPlacedByTheRules : Prop :=
  (∀ (hold : Nat) (o : ShadeObject) (p : Placement),
    (p.entries.length < 16 →
      placeObject hold p o =
        { p with entries := p.entries ++ [entryOfObject hold o], inserted := p.inserted + 1 }) ∧
    (16 ≤ p.entries.length → (∃ e ∈ p.entries, e.state = .fading) →
      ∃ before e after,
        p.entries = before ++ e :: after ∧ e.state = .fading ∧
        (∀ x ∈ p.entries, x.state = .fading → x.veff ≤ e.veff) ∧
        (∀ x ∈ before, x.state = .fading → x.veff < e.veff) ∧
        placeObject hold p o =
          { p with
            entries := before ++ entryOfObject hold o :: after
            inserted := p.inserted + 1 }) ∧
    (16 ≤ p.entries.length → (∀ e ∈ p.entries, e.state ≠ .fading) →
      ∃ before e after,
        p.entries = before ++ e :: after ∧
        (∀ x ∈ p.entries,
          max 0 (max e.left o.left - min e.right o.right) ≤
            max 0 (max x.left o.left - min x.right o.right)) ∧
        (∀ x ∈ before,
          max 0 (max e.left o.left - min e.right o.right) <
            max 0 (max x.left o.left - min x.right o.right)) ∧
        placeObject hold p o =
          { p with
            entries :=
              before ++
                { e with
                  left := min e.left o.left
                  right := max e.right o.right
                  v := min e.v o.v
                  veff := min e.v o.v
                  rows := e.rows.widen o.rows
                  lamps := e.lamps.widen o.lamps
                  cls := e.cls.widen o.cls
                  state := .active
                  hold := hold
                  aliases := if e.aliases.length < 3 then e.aliases ++ [o.id] else e.aliases } :: after
            coalesced := p.coalesced + 1 })) ∧
  (validateObjects [] [] = { objects := [], ignored := 0, clamped := false } ∧
    ∀ (earlier : List RawObject) (o : RawObject) (v : Validation), o.classBits ≤ 3 → o.lampBits ≤ 3 →
      v = validateObjects [] earlier →
      validateObjects [] (earlier ++ [o]) =
        if o.id = 0 ∨ o.width = 0 ∨ o.classBits = 3 ∨ o.lampBits = 0 ∨ ∃ x ∈ earlier, x.id = o.id then
          { v with ignored := v.ignored + 1 }
        else
          { objects :=
              v.objects ++
                [ { id := o.id
                    left := o.left
                    right := if 128 < o.left + o.width then 128 else o.left + o.width
                    rows := if o.rowsBit = true then .both else .upper
                    lamps :=
                      if o.lampBits = 1 then .left else if o.lampBits = 2 then .right else .both
                    cls :=
                      if o.classBits = 0 then .oncoming
                      else if o.classBits = 1 then .preceding else .sign
                    v := o.v } ]
            ignored := v.ignored
            clamped := v.clamped || decide (128 < o.left + o.width) }) ∧
  (∀ (hold : Nat) (o : ShadeObject) (rest : List ShadeObject) (ws : List WorkEntry),
    matchObjects hold [] ws = (ws, []) ∧
    ((∀ w ∈ ws, w.entry.id ≠ o.id ∧ o.id ∉ w.entry.aliases) →
      matchObjects hold (o :: rest) ws =
        ((matchObjects hold rest ws).1, o :: (matchObjects hold rest ws).2)) ∧
    ∀ (before after : List WorkEntry) (w : WorkEntry), ws = before ++ w :: after →
      (∀ x ∈ before, x.entry.id ≠ o.id ∧ o.id ∉ x.entry.aliases) →
      (w.entry.id = o.id ∨ o.id ∈ w.entry.aliases) →
      matchObjects hold (o :: rest) ws =
        matchObjects hold rest
          (before ++
            { entry :=
                if w.matched = true then
                  { w.entry with
                    left := min w.entry.left o.left
                    right := max w.entry.right o.right
                    v := min w.entry.v o.v
                    veff := min w.entry.v o.v
                    rows := if w.entry.rows = .both ∨ o.rows = .both then .both else .upper
                    lamps := if w.entry.lamps = o.lamps then o.lamps else .both
                    cls :=
                      if w.entry.cls = .oncoming ∨ o.cls = .oncoming then .oncoming
                      else if w.entry.cls = .preceding ∨ o.cls = .preceding then .preceding
                      else .sign
                    state := .active
                    hold := hold }
                else
                  { w.entry with
                    left := o.left, right := o.right, rows := o.rows, lamps := o.lamps
                    cls := o.cls, v := o.v, veff := o.v, state := .active, hold := hold }
              matched := true } :: after)) ∧
  (∀ (hold : Nat) (ws : List WorkEntry),
    releaseUnmatched hold ws =
      ws.filterMap fun w =>
        if w.matched = true ∨ w.entry.state ≠ .active then some w.entry
        else if hold = 0 ∨ w.entry.cls = .sign then
          if w.entry.v < 255 then
            some { w.entry with state := .fading, hold := 0, veff := w.entry.v }
          else none
        else some { w.entry with state := .hold, hold := hold, veff := w.entry.v }) ∧
  ∀ (hold : Nat) (objects : List RawObject) (table : List ShadeEntry) (v : Validation)
    (matching : List WorkEntry × List ShadeObject) (placing : Placement),
    v = validateObjects [] objects →
    matching = matchObjects hold v.objects (table.map fun e => ⟨e, false⟩) →
    placing =
      matching.2.foldl (placeObject hold)
        { entries := releaseUnmatched hold matching.1, inserted := 0, coalesced := 0 } →
    ∃ sorted : List ShadeEntry,
      sorted.Perm placing.entries ∧
      (sorted.Pairwise fun a b => a.left < b.left ∨ (a.left = b.left ∧ a.id ≤ b.id)) ∧
      mergeList hold objects table =
        { table := sorted
          matched := v.objects.length - matching.2.length
          inserted := placing.inserted
          coalesced := placing.coalesced
          ignored := v.ignored
          clamped := v.clamped }

/-- No reported road user is left unshaded: after a merge, every valid object of the list is shaded by some ACTIVE entry over its whole width, rows and lamps, at its residual or darker, however full the table was. -/
def Obligations.EveryReportedRoadUserIsShaded : Prop :=
  ∀ (hold : Nat) (objects : List RawObject) (table : List ShadeEntry),
    ∀ o ∈ (validateObjects [] objects).objects,
      ∃ e ∈ (mergeList hold objects table).table, e.shades o

/-- Every step keeps the Shade Table sound: at most 16 entries, in table order, no id twice among ids and aliases, every field in its range. -/
def Obligations.StepsKeepTheShadeTableSound : Prop :=
  ∀ s t : State, ShadeInv s → step s = .next t → ShadeInv t

/-- An entry that is reported no more is held for its hold count of snapshots, enters FADING at its V, and then rises by fade_step at each snapshot until it would reach 255, where it is removed; an ACTIVE entry does not age. -/
def Obligations.AnUnreportedEntryIsHeldThenFades : Prop :=
  ∀ (step : Nat) (e : ShadeEntry) (n : Nat),
    (e.state = .active →
      (fun o => o.bind (ShadeEntry.age step))^[n] (some e) = some e) ∧
    (e.state = .hold → 1 ≤ e.hold →
      (n < e.hold →
        (fun o => o.bind (ShadeEntry.age step))^[n] (some e) =
          some { e with hold := e.hold - n }) ∧
      (fun o => o.bind (ShadeEntry.age step))^[e.hold + n] (some e) =
        if e.v + n * step < 255 then
          some { e with state := .fading, hold := 0, veff := e.v + n * step }
        else none) ∧
    (e.state = .fading → e.veff < 255 →
      (fun o => o.bind (ShadeEntry.age step))^[n] (some e) =
        if e.veff + n * step < 255 then some { e with veff := e.veff + n * step } else none)

/-- SHADE_READ: the entries from the first position onward, up to the count and to 4, with the entry count and TRAFFIC of the last snapshot; nothing changed. -/
def Obligations.ShadeReadGivesTheEntries : Prop :=
  ∀ (p : Port) (tag first count : Byte) (s : State) (run : List ShadeEntry),
    s.canTake p →
    run = (s.shades.table.drop first.toNat).take (min 4 count.toNat) →
    exec (.shadeRead p tag [first, count]) s =
      .next
        (s.answered p tag .shadeRead
          ([0x00, BitVec.ofNat 8 s.shades.table.length,
              if s.shades.traffic = true then 0x01 else 0x00, first, BitVec.ofNat 8 run.length] ++
            run.flatMap fun e =>
              [BitVec.ofNat 8 e.id, BitVec.ofInt 8 e.left] ++
                wordBytes (BitVec.ofInt 16 e.right) ++
                [ BitVec.ofNat 8
                    (shadeRowsCode e.rows + 2 * classCode e.cls + 8 * lampsCode e.lamps +
                      32 * shadeStateCode e.state)
                , BitVec.ofNat 8 e.v, BitVec.ofNat 8 e.veff, BitVec.ofNat 8 e.hold
                , BitVec.ofNat 8 e.aliases.length
                , BitVec.ofNat 8 (e.aliases.getD 0 0)
                , BitVec.ofNat 8 (e.aliases.getD 1 0)
                , BitVec.ofNat 8 (e.aliases.getD 2 0) ]))

/-! ## Steering -/

/-- A MOTION stores its clamped report, makes the latch valid, moves TOWN by its two thresholds and refreshes the CHS port, in STANDBY and in RUN. -/
def Obligations.MotionIsStored : Prop :=
  ∀ (tag s1 s0 v1 v0 r : Byte) (s : State) (steer : Int) (speed : Nat) (clamped town : Bool),
    s.canTake .chs →
    steer = max (-7200) (min 7200 (s1 ++ s0).toInt) →
    speed = min 1500 (v1 ++ v0).toNat →
    clamped = decide (steer ≠ (s1 ++ s0).toInt ∨ speed ≠ (v1 ++ v0).toNat) →
    town =
      (if speed < s.params.townOn then true
        else if s.params.townOff < speed then false else s.steering.town) →
    exec (.motion .chs tag [s1, s0, v1, v0, r]) s =
      .next
        ((({ s with
              steering :=
                { s.steering with
                  latch :=
                    { steer := steer, speed := speed, reverse := r.getLsbD 0, valid := true }
                  town := town } }.marked
            { Sticky.clear with inputClamp := clamped }
            (if s.ports.chs.fresh = true then [] else [.stale])).onPort
          .chs (PortState.refreshed s.params.chsTimeout)).answered
          .chs tag .motion
          ([if clamped = true then 0x01 else 0x00] ++ wordBytes (BitVec.ofInt 16 steer) ++
            wordBytes (BitVec.ofNat 16 speed) ++ [if town = true then 0x01 else 0x00]))

/-- TOWN is moved by a MOTION and a hard reset alone, the index-slip counter falls at a hard reset alone, and the safe latch is cleared by STOP, RESTART and a hard reset alone; a character counts as the request whose frame it completes. -/
def Obligations.OnlyTheNamedCommandsMoveTheFlag : Prop :=
  ∀ (i : Instr) (s t : State), i.wellFormed = true → exec i s = .next t →
    (t.steering.town ≠ s.steering.town →
      (∃ p tag payload, i = .motion p tag payload) ∨ i = .hardReset ∨
        ∃ p c tag taken high,
          i = .characterReceived p c ∧ (s.ports.get p).receiver = .checkLow tag 0x02 taken high) ∧
    (t.steering.slips < s.steering.slips → s.steering.slips ≤ 65535 → i = .hardReset) ∧
    (s.supervisor.safeLatch = true → t.supervisor.safeLatch = false →
      (∃ p tag rest, i = .stop p tag rest) ∨ (∃ p tag rest, i = .restart p tag rest) ∨
        i = .hardReset ∨
        ∃ p c tag high code,
          i = .characterReceived p c ∧
            (s.ports.get p).receiver = .checkLow tag 0x04 [code] high ∧
            (code = 2 ∨ code = 3))

/-- Each edge of the encoder counts by the table of its mode, saturating, and faults a REFERENCED decoder whose changed count lies beyond encoder_limit; the index sets the count to the centre, references the decoder and counts a slip of more than 16. While RESETN is low an edge is not counted; that the level of its line is followed then is the model's choice (assumption 16). -/
def Obligations.EncoderEventsMoveTheCount : Prop :=
  (∀ row ∈
      ([ (.a, .rising, false, 1, 1, 1, 1), (.a, .rising, true, -1, -1, -1, 1)
       , (.a, .falling, true, 0, 1, 1, 0), (.a, .falling, false, 0, -1, -1, 0)
       , (.b, .rising, true, 0, 0, 1, -1), (.b, .rising, false, 0, 0, -1, -1)
       , (.b, .falling, false, 0, 0, 1, 0), (.b, .falling, true, 0, 0, -1, 0) ] :
        List (EncoderLine × Edge × Bool × Int × Int × Int × Int)),
    edgeStep (encoderModeOf 0) row.1 row.2.1 row.2.2.1 = row.2.2.2.1 ∧
    edgeStep (encoderModeOf 1) row.1 row.2.1 row.2.2.1 = row.2.2.2.2.1 ∧
    edgeStep (encoderModeOf 2) row.1 row.2.1 row.2.2.1 = row.2.2.2.2.2.1 ∧
    edgeStep (encoderModeOf 3) row.1 row.2.1 row.2.2.1 = row.2.2.2.2.2.2) ∧
  (∀ (s : State) (line : EncoderLine) (edge : Edge), s.resetn = false →
    exec (.encoderEdge line edge) s =
      .next
        { s with
          steering :=
            { s.steering with
              encA := if line = .a then decide (edge = .rising) else s.steering.encA
              encB := if line = .b then decide (edge = .rising) else s.steering.encB } }) ∧
  ∀ s : State, s.resetn = true →
    (∀ (line : EncoderLine) (edge : Edge) (count : Int),
      count =
        max 0 (min 65535 ((s.steering.count : Int) +
          edgeStep (encoderModeOf s.params.encoderMode) line edge
            (if line = .a then s.steering.encB else s.steering.encA))) →
      exec (.encoderEdge line edge) s =
        .next
          { s with
            steering :=
              { s.steering with
                encA := if line = .a then decide (edge = .rising) else s.steering.encA
                encB := if line = .b then decide (edge = .rising) else s.steering.encB
                count := count.toNat
                decoder :=
                  if s.steering.decoder = .referenced ∧ count ≠ s.steering.count ∧
                      s.params.encoderLimit < (count - 32768).natAbs then .faulted
                  else s.steering.decoder } }) ∧
    exec .indexEvent s =
      .next
        { s with
          steering :=
            { s.steering with
              count := 32768
              decoder := .referenced
              slips :=
                if s.steering.decoder = .referenced ∧
                    16 < ((s.steering.count : Int) - 32768).natAbs then
                  min 65535 (s.steering.slips + 1)
                else s.steering.slips } }

/-- Every step keeps the Encoder Decoder sound: the count in its range, and a REFERENCED decoder within encoder_limit of the centre, whatever is written to the limit. -/
def Obligations.StepsKeepTheDecoderWithinItsLimit : Prop :=
  ∀ s t : State, DecoderInv s → step s = .next t → DecoderInv t

/-- The steering query in its four steps. Where the four conditions hold the two angles are compared: the run counter of the verdict goes up, the other to 0, and a run that reaches disagree_frames moves DISAGREE, with both counters 0, STEER set and the Supervisor informed. A source is then selected, CHASSIS before ENCODER and neither in DISAGREE; the target is its steer by swivel_gain over 1024, clamped to 64, and 0 without a source or under speed gating; a change of source is held and reported. Nothing else changes. -/
def Obligations.TheSteeringQueryFollowsItsSteps : Prop :=
  ∀ (s : State) (q : Query) (compared differ enters leaves gated : Bool) (encoder steer raw : Int)
    (disagreeRun agreeRun : Nat) (source : Source),
    q = s.steeringQuery →
    encoder =
      max (-7200) (min 7200
        ((((s.steering.count : Int) - 32768) * s.params.encoderScale).tdiv 16)) →
    compared =
      decide
        (s.steering.latch.valid = true ∧ s.ports.chs.fresh = true ∧ s.params.encoderEnable = 1 ∧
          s.steering.decoder = .referenced) →
    differ = decide (s.params.disagreeLimit < (s.steering.latch.steer - encoder).natAbs) →
    disagreeRun = (if differ = true then min 255 (s.steering.disagreeRun + 1) else 0) →
    agreeRun = (if differ = true then 0 else min 255 (s.steering.agreeRun + 1)) →
    enters = decide (s.steering.disagree = false ∧ s.params.disagreeFrames ≤ disagreeRun) →
    leaves = decide (s.steering.disagree = true ∧ s.params.disagreeFrames ≤ agreeRun) →
    source =
      (if q.afterStep1.steering.disagree = true then .none
        else if s.ports.chs.fresh = true ∧ s.steering.latch.valid = true then .chassis
        else if s.params.encoderEnable = 1 ∧ s.steering.decoder = .referenced then .encoder
        else .none) →
    steer = (if source = .chassis then s.steering.latch.steer else encoder) →
    raw = (steer * s.params.swivelGain).tdiv 1024 →
    gated =
      decide
        (s.ports.chs.fresh = true ∧
          (s.steering.latch.speed < s.params.swivelMinSpeed ∨ s.steering.latch.reverse = true)) →
    (compared = false → q.afterStep1 = s) ∧
    (compared = true → enters = false → leaves = false →
      q.afterStep1 =
        { s with
          steering := { s.steering with disagreeRun := disagreeRun, agreeRun := agreeRun } }) ∧
    (compared = true → (enters = true ∨ leaves = true) →
      q.afterStep1 =
        ({ s with
            steering :=
              { s.steering with disagree := enters, disagreeRun := 0, agreeRun := 0 }
            supervisor := { s.supervisor with recDisagree := enters } }.recompute).marked
          Sticky.clear [.steer]) ∧
    q.after =
      (if source = s.steering.source then q.afterStep1
        else
          { q.afterStep1 with
            steering := { q.afterStep1.steering with source := source }
            supervisor := { q.afterStep1.supervisor with recSource := source } }.recompute) ∧
    (q.target, q.clip) =
      (if gated = true ∨ source = .none then (0, false)
        else (max (-64) (min 64 raw), decide (64 < raw.natAbs)))

/-- Every step keeps S and the latched target from −64 to +64. -/
def Obligations.StepsKeepTheSwivelInRange : Prop :=
  ∀ s t : State, SwivelInv s → step s = .next t → SwivelInv t

/-! ## Pattern Memory -/

/-- PROFILE_OPEN: its four checks in their order, each refusal without any effect, and the session it opens. -/
def Obligations.ProfileOpenChecksThenOpens : Prop :=
  ∀ (tag slot row column : Byte) (s : State), s.canTake .cab →
    ((3 < slot.toNat ∨ 1 < row.toNat) →
      exec (.profileOpen .cab tag [slot, row, column]) s =
        .next (s.answered .cab tag .profileOpen [0x15])) ∧
    (slot.toNat ≤ 3 → row.toNat ≤ 1 →
      (s.ports.cab.fresh = false →
        exec (.profileOpen .cab tag [slot, row, column]) s =
          .next (s.answered .cab tag .profileOpen [0x11])) ∧
      (s.ports.cab.fresh = true → s.patterns.session.isSome = true →
        exec (.profileOpen .cab tag [slot, row, column]) s =
          .next (s.answered .cab tag .profileOpen [0x13])) ∧
      (s.ports.cab.fresh = true → s.patterns.session = none →
        (∃ l ∈ s.patterns.layers.toList, l.enabled = true ∧ l.slot = slot.toNat) →
        exec (.profileOpen .cab tag [slot, row, column]) s =
          .next (s.answered .cab tag .profileOpen [0x12])) ∧
      (s.ports.cab.fresh = true → s.patterns.session = none →
        (∀ l ∈ s.patterns.layers.toList, l.enabled = true → l.slot ≠ slot.toNat) →
        exec (.profileOpen .cab tag [slot, row, column]) s =
          .next
            (({ s with
                patterns :=
                  { s.patterns with
                    session :=
                      some
                        { slot := slot.toNat
                          row := if row = 0 then .lower else .upper
                          pointer := min 79 column.toNat
                          endMark := false } } }.marked
              { Sticky.clear with inputClamp := decide (79 < column.toNat) } [.edit]).answered
              .cab tag .profileOpen
              [if 79 < column.toNat then 0x01 else 0x00,
                BitVec.ofNat 8 (min 79 column.toNat)])))

/-- PROFILE_DATA: the values go to the session's row from the pointer on, up to column 79, the rest is discarded and PROFILE_TRUNC raised; with no session open nothing is written. -/
def Obligations.ProfileDataWritesTheRow : Prop :=
  ∀ (tag : Byte) (values : List Byte) (s : State),
    s.canTake .cab → 1 ≤ values.length → values.length ≤ 60 →
    (s.patterns.session = none →
      exec (.profileData .cab tag values) s =
        .next (s.answered .cab tag .profileData [0x14])) ∧
    (∀ (x : Session) (written : Nat), s.patterns.session = some x → x.pointer ≤ 79 →
      (x.endMark = true → x.pointer = 79) →
      written = (if x.endMark = true then 0 else min values.length (80 - x.pointer)) →
      ∃ row : Vector Nat 80,
        (∀ c : Fin 80,
          row[c] =
            if x.pointer ≤ c.val ∧ c.val < x.pointer + written then
              (values.getD (c.val - x.pointer) 0).toNat
            else ((s.patterns.slotRows x.slot).row x.row)[c]) ∧
        exec (.profileData .cab tag values) s =
          .next
            (({ s with
                patterns :=
                  { s.patterns.setRow x.slot x.row row with
                    session :=
                      some
                        { x with
                          pointer := min 79 (x.pointer + written)
                          endMark := x.endMark || decide (x.pointer + written = 80) } } }.marked
              { Sticky.clear with profileTrunc := decide (written < values.length) } []).answered
              .cab tag .profileData
              [if written < values.length then 0x02 else 0x00, BitVec.ofNat 8 written,
                BitVec.ofNat 8 (min 79 (x.pointer + written)),
                if x.endMark = true ∨ x.pointer + written = 80 then 0x01 else 0x00]))

/-- PROFILE_CLOSE: an open session closes with EDIT raised and its values kept; with none open it is refused and nothing is raised. -/
def Obligations.ProfileCloseEndsTheSession : Prop :=
  ∀ (tag : Byte) (s : State), s.canTake .cab →
    (s.patterns.session.isSome = true →
      exec (.profileClose .cab tag []) s =
        .next
          (({ s with patterns := { s.patterns with session := none } }.marked
            Sticky.clear [.edit]).answered
            .cab tag .profileClose [0x00])) ∧
    (s.patterns.session = none →
      exec (.profileClose .cab tag []) s =
        .next (s.answered .cab tag .profileClose [0x14]))

/-- PROFILE_READ gives the values of a row from a column on, up to the count, 24 and the row's end, or refuses a slot or row that does not exist; RECIPE_READ gives all eight layers in index order; neither changes any state. -/
def Obligations.PatternReadsGiveTheContents : Prop :=
  ∀ (p : Port) (tag : Byte) (s : State), s.canTake p →
    (∀ slot row column count : Byte,
      ((3 < slot.toNat ∨ 1 < row.toNat) →
        exec (.profileRead p tag [slot, row, column, count]) s =
          .next (s.answered p tag .profileRead [0x15])) ∧
      (∀ (r : Row) (values : List Nat), slot.toNat ≤ 3 → row.toNat ≤ 1 →
        r = (if row = 0 then .lower else .upper) →
        values =
          (((s.patterns.slotRows slot.toNat).row r).toList.drop column.toNat).take
            (min 24 count.toNat) →
        exec (.profileRead p tag [slot, row, column, count]) s =
          .next
            (s.answered p tag .profileRead
              ([0x00, slot, row, column, BitVec.ofNat 8 values.length] ++
                values.map (BitVec.ofNat 8))))) ∧
    exec (.recipeRead p tag []) s =
      .next
        (s.answered p tag .recipeRead
          (0x00 ::
            (List.finRange 8).flatMap fun (i : Fin 8) =>
              [ BitVec.ofNat 8 i.val
              , BitVec.ofNat 8
                  (flagBit s.patterns.layers[i].enabled + 2 * opCode s.patterns.layers[i].op)
              , BitVec.ofNat 8 s.patterns.layers[i].slot
              , BitVec.ofNat 8
                  (flagBit s.patterns.layers[i].mask.traffic +
                    2 * flagBit s.patterns.layers[i].mask.weather +
                    4 * flagBit s.patterns.layers[i].mask.town +
                    16 * flagBit s.patterns.layers[i].value.traffic +
                    32 * flagBit s.patterns.layers[i].value.weather +
                    64 * flagBit s.patterns.layers[i].value.town)
              , BitVec.ofNat 8 s.patterns.layers[i].weight ]))

/-- RECIPE_WRITE: refused whole for a value that names nothing or a repeated index, then for a layer enabled on the slot under edit; else each record is written into its layer with its weight brought to 128, and the other layers kept. -/
def Obligations.RecipeWriteWritesTheLayers : Prop :=
  ∀ (tag : Byte) (payload : List Byte) (s : State) (records : List RawLayer) (bad barred : Prop),
    s.canTake .cab → payload.length % 5 = 0 → 5 ≤ payload.length → payload.length ≤ 40 →
    records = readLayers payload →
    (bad ↔
      (∃ r ∈ records, 7 < r.index ∨ 3 < r.slot ∨ r.opBits = 3) ∨
        ¬(records.map RawLayer.index).Nodup) →
    (barred ↔
      ∃ x, s.patterns.session = some x ∧ ∃ r ∈ records, r.enabled = true ∧ r.slot = x.slot) →
    (bad →
      exec (.recipeWrite .cab tag payload) s =
        .next (s.answered .cab tag .recipeWrite [0x15])) ∧
    (¬bad → barred →
      exec (.recipeWrite .cab tag payload) s =
        .next (s.answered .cab tag .recipeWrite [0x12])) ∧
    (¬bad → ¬barred →
      ∃ layers : Vector Layer 8,
        (∀ i : Fin 8,
          layers[i] =
            match records.find? fun r => r.index == i.val with
            | none => s.patterns.layers[i]
            | some r =>
              { enabled := r.enabled, slot := r.slot, mask := r.mask, value := r.value
                op := if r.opBits = 0 then .max else if r.opBits = 1 then .add else .cut
                weight := min 128 r.weight }) ∧
        exec (.recipeWrite .cab tag payload) s =
          .next
            (({ s with patterns := { s.patterns with layers := layers } }.marked
              { Sticky.clear with inputClamp := records.any fun r => decide (128 < r.weight) }
              []).answered
              .cab tag .recipeWrite
              [if ∃ r ∈ records, 128 < r.weight then 0x01 else 0x00,
                BitVec.ofNat 8 records.length]))

/-- Every step keeps the interlock: while a session is open no enabled layer names its slot, its pointer and end mark are sound, and the CAB port is fresh. -/
def Obligations.StepsKeepTheEditInterlock : Prop :=
  ∀ s t : State, SessionInv s → step s = .next t → SessionInv t

/-! ## Composition -/

/-- A frame start that finds the engine IDLE: the timer is loaded, the table aged, the steering query made, and a composition begins on the inputs as their owners answer. A change of the VIS port's freshness that comes with it, as the command before or the command after, is taken by the Supervisor at some place among the query's two reports, or is left to its own command; the level latched is one of those that stand between the reports. Both are free values (assumption 5). -/
def Obligations.FrameStartBeginsAComposition : Prop :=
  ∀ (s s1 : State) (table : List ShadeEntry) (traffic : Bool) (due : Option Bool),
    s.engine.timer.isSome = true → s.engine.flight = none →
    table = s.shades.table.filterMap (ShadeEntry.age s.params.fadeStep) →
    traffic = table.any (fun e => decide (e.cls ≠ .sign ∧ e.state ≠ .fading)) →
    s1 =
      { s with shades := { s.shades with table := table, traffic := traffic } }.marked
        Sticky.clear (if traffic = s.shades.traffic then [] else [.shade]) →
    due =
      (if s.supervisor.recVisFresh = s.ports.vis.fresh then s.pending.head?.bind s.visChange
        else some s.ports.vis.fresh) →
    ∃ (place : Nat) (level : Level) (a b c d e : State),
      (place = 3 → s.supervisor.recVisFresh = s.ports.vis.fresh) ∧ place ≤ 3 ∧
      (∀ (report : Nat → State → State) (source : Source),
        (∀ i x,
          report i x =
            match due with
            | none => x
            | some fresh =>
              if i = place then
                { x with supervisor := { x.supervisor with recVisFresh := fresh } }.recompute
              else x) →
        source = s1.steeringQuery.after.steering.source →
        a = report 0 s1 ∧ b = a.steeringQuery.afterStep1 ∧ c = report 1 b ∧
          d =
            (if source = c.steering.source then c
              else
                { c with
                  steering := { c.steering with source := source }
                  supervisor := { c.supervisor with recSource := source } }.recompute) ∧
          e = report 2 d) ∧
      (due = none → e = s1.steeringQuery.after) ∧
      level ∈ [s1, a, b, c, d, e].map (fun x => x.supervisor.level) ∧
      exec .frameStart s =
        .next
          { e with
            engine :=
              { s.engine with
                timer := some s.params.framePeriod
                flight :=
                  some
                    { snapshot := table
                      flags :=
                        { traffic := traffic, weather := s.beam.weather, town := s.steering.town }
                      target := s1.steeringQuery.target
                      clip := s1.steeringQuery.clip
                      mode := s.beam.mode
                      trim := s.beam.trim
                      layers := s.patterns.layers
                      profiles :=
                        Vector.ofFn fun i =>
                          if ∃ l ∈ s.patterns.layers.toList, l.enabled = true ∧ l.slot = i.val then
                            some (s.patterns.slotRows i.val)
                          else none
                      level := level
                      riseStep := s.params.riseStep
                      swivelRate := s.params.swivelRate
                      lamps :=
                        s.output.lamps.map fun (l : Lamp) =>
                          { composed := l.enabled, colReverse := l.colReverse
                            rowSwap := l.rowSwap, discarded := false } } }
            output :=
              { s.output with
                lamps :=
                  s.output.lamps.map fun (l : Lamp) =>
                    if l.enabled = true then
                      { l.setShadowBank { l.shadowBank with placement := l.rowSwap } with
                        shadow := .filling }
                    else l }
            choices := s.choices + 1 }

/-- A frame start that finds the engine COMPOSING is skipped: the timer reloaded, both repeat counters up, REPEAT set, nothing latched; at overrun_limit the safe latch is set and the level goes to SAFE. -/
def Obligations.FrameStartInFlightIsSkipped : Prop :=
  ∀ (s skipped : State) (n : Nat),
    s.engine.timer.isSome = true → s.engine.flight.isSome = true →
    n = min 255 (s.engine.consecRepeats + 1) →
    skipped =
      { s with
        engine :=
          { s.engine with
            timer := some s.params.framePeriod
            repeatCount := min 65535 (s.engine.repeatCount + 1)
            consecRepeats := n } } →
    (n < s.params.overrunLimit →
      exec .frameStart s = .next (skipped.marked Sticky.clear [.repeated])) ∧
    (s.params.overrunLimit ≤ n →
      exec .frameStart s =
        .next
          ({ skipped with
              supervisor :=
                { s.supervisor with safeLatch := true }.atSafe s.tellExpiryNext }.marked
            Sticky.clear (.repeated :: noticesToSafe s.supervisor.level)))

/-- The completion of a composition: S, the ramp state and the shadow of each lamp that it composed and that was not disabled since, the counters and the flags. A lamp disabled since adds a free value to the rise-limited count, up to its segments that are rise-limited from an underlying output of 0 (assumption 6), which is the model's choice; that ADD_SAT counts such a lamp's segments is DEDUCED (assumption 23). Where a RESTART is the next command, the flags may outlast its clearing of the sticky sets, a free value (assumption 24). -/
def Obligations.CompletionCommitsTheFrame : Prop :=
  ∀ (s : State) (x : Latched) (swivel : Int) (commits : Side → Bool) (sat : Bool)
    (flags : Sticky),
    s.engine.flight = some x → flags = { Sticky.clear with addSat := sat, swivelClip := x.clip } →
    swivel =
      (if (x.swivelRate : Int) < x.target - s.engine.swivel then s.engine.swivel + x.swivelRate
        else if x.target - s.engine.swivel < -(x.swivelRate : Int) then
          s.engine.swivel - x.swivelRate
        else x.target) →
    (∀ k, commits k = ((x.lamps.get k).composed && !(x.lamps.get k).discarded)) →
    sat =
      ([Side.left, Side.right].any fun k =>
        (x.lamps.get k).composed &&
          (x.lampSegments swivel k (s.engine.ramp.get k)).any fun y => y.saturated) →
    ∃ (limited : Side → Nat) (outlasting : Sticky),
      (outlasting = Sticky.clear ∨ (outlasting = flags ∧ s.restartNext = true)) ∧
      limited .left + limited .right ≤ 192 ∧
      (∀ k,
        ((x.lamps.get k).composed = false → limited k = 0) ∧
        (commits k = true →
          limited k =
            (x.lampSegments swivel k (s.engine.ramp.get k)).countP fun y => y.limited) ∧
        ((x.lamps.get k).discarded = true →
          limited k ≤
            (x.lampSegments swivel k (TwoRows.zero 48)).countP fun y => y.limited)) ∧
      ∃ t,
        exec .compositionComplete s = .next t ∧
        (∀ k,
          t.engine.ramp.get k =
              (if commits k = true then x.lampRamp swivel k (s.engine.ramp.get k)
                else s.engine.ramp.get k) ∧
            t.output.lamps.get k =
              (if commits k = true then
                  { (s.output.lamps.get k).setShadowBank
                      { values :=
                          placeBank (x.lamps.get k).colReverse (x.lamps.get k).rowSwap
                            (x.lampRamp swivel k (s.engine.ramp.get k))
                        placement := (s.output.lamps.get k).shadowBank.placement } with
                    shadow := .complete }
                else s.output.lamps.get k)) ∧
        t =
          { s with
            engine :=
              { s.engine with
                flight := none
                swivel := swivel
                ramp := t.engine.ramp
                frameCount := (s.engine.frameCount + 1) % 65536
                consecRepeats := 0
                addSat := sat
                swivelClip := x.clip
                riseLimited := limited .left + limited .right }
            output := { s.output with lamps := t.output.lamps }
            restartFlags := outlasting
            choices := s.choices + 1 }.marked
            flags []

/-- The stages of a segment, each by its formula at every value: where its profile position lies, the interpolation between two profile columns, which layers count, a layer's contribution and how it meets the base, the layers in index order from a base of 0, how much of a column an entry covers and the least residual of the entries that take part, cut in AUTO alone, the gate, trim and widening, their composition as the target output, and that dimming is immediate while brightening is bounded by rise_step. -/
def Obligations.StagesScaleAndRampASegment : Prop :=
  (∀ (S : Int) (c : Nat), -64 ≤ S → S ≤ 64 → c < 48 →
    (profilePosition S c : Int) = (16 + c) * 4 - S ∧ profilePosition S c ≤ 316 ∧
      profilePosition S c / 4 ≤ 79 ∧
      (profilePosition S c % 4 ≠ 0 → profilePosition S c / 4 + 1 ≤ 79)) ∧
  (∀ (row : Vector Nat 80) (k : Fin 80), interpolated row (4 * k.val) = row[k]) ∧
  (∀ (row : Vector Nat 80) (k r : Nat) (h : k + 1 < 80), 1 ≤ r → r ≤ 3 →
    interpolated row (4 * k + r) = (row[k] * (4 - r) + row[k + 1] * r + 2) / 4) ∧
  (∀ v weight : Nat, contribution weight v = (v * weight + 64) / 128) ∧
  (∀ (l : Layer) (f : RoadFlags),
    l.counts f = true ↔
      l.enabled = true ∧ (l.mask.traffic = true → l.value.traffic = f.traffic) ∧
        (l.mask.weather = true → l.value.weather = f.weather) ∧
        (l.mask.town = true → l.value.town = f.town)) ∧
  (∀ (b : Base) (n : Nat),
    b.combine .max n = ⟨max b.value n, b.saturated⟩ ∧
      b.combine .cut n = ⟨min b.value (255 - n), b.saturated⟩ ∧
      b.combine .add n =
        (if b.value + n ≤ 255 then ⟨b.value + n, b.saturated⟩ else ⟨255, true⟩)) ∧
  (∀ (x : Latched) (r : Row) (q : Nat) (rows : Fin 4 → TwoRows 80),
    (∀ l ∈ x.layers.toList, l.enabled = true → l.slot ≤ 3) →
    (∀ n : Fin 4, (∃ l ∈ x.layers.toList, l.enabled = true ∧ l.slot = n.val) →
      x.profiles[n] = some (rows n)) →
    ∃ base : Nat → Base,
      base 0 = ⟨0, false⟩ ∧ x.base r q = base 8 ∧
      ∀ i : Fin 8,
        base (i.val + 1) =
          if x.layers[i].counts x.flags = true then
            (base i.val).combine x.layers[i].op
              (contribution x.layers[i].weight
                (interpolated ((rows (Fin.ofNat 4 x.layers[i].slot)).row r) q))
          else base i.val) ∧
  (∀ (e : ShadeEntry) (c n : Nat) (a : Int), a = ((c : Int) - 24) * 4 →
    (n : Int) = max 0 (min e.right (a + 4) - max e.left a) →
    entryResidual e c = 255 - ((255 - e.veff) * n + 2) / 4) ∧
  (∀ (x : Latched) (k : Side) (r : Row) (c base R : Nat) (part : List ShadeEntry),
    part =
      x.snapshot.filter (fun e =>
        decide ((r = .upper ∨ e.rows = .both) ∧
          (e.lamps = .both ∨ e.lamps = if k = .left then .left else .right))) →
    R = residual x.snapshot k r c →
    R ≤ 255 ∧ (∀ e ∈ part, R ≤ entryResidual e c) ∧
      (R = 255 ∨ ∃ e ∈ part, R = entryResidual e c) ∧
      x.shaded k r c base = if x.mode = .auto then (base * R + 127) / 255 else base) ∧
  (∀ (m : BeamMode) (l : Level) (r : Row),
    gated m l r = true ↔
      m = .off ∨ (m = .low ∧ r = .upper) ∨ (m = .auto ∧ l = .basic ∧ r = .upper)) ∧
  (∀ trim i : Nat, trimmed trim i = (i * (trim + 1) + 32) / 64 ∧ widened i = i * 4 + i / 64) ∧
  (∀ i ≤ 255,
    contribution 128 i = i ∧ contribution 0 i = 0 ∧ trimmed 63 i = i ∧ trimmed 0 i ≤ 4 ∧
      widened i ≤ 1023) ∧
  ∀ (x : Latched) (S : Int) (k : Side) (r : Row) (c u : Nat),
    x.targetOutput S k r c =
      widened
        (trimmed x.trim
          (if gated x.mode x.level r = true then 0
            else x.shaded k r c (x.base r (profilePosition S c)).value)) ∧
    (x.targetOutput S k r c ≤ u → (x.segment S k r c u).output = x.targetOutput S k r c) ∧
    (u < x.targetOutput S k r c →
      (x.segment S k r c u).output = min (x.targetOutput S k r c) (u + x.riseStep)) ∧
    ((x.segment S k r c u).limited = true ↔ u + x.riseStep < x.targetOutput S k r c) ∧
    (x.segment S k r c u).saturated = (x.base r (profilePosition S c)).saturated

/-- From the camera to the lamp: in RUN and AUTO, a road user reported with residual 0 is dark in the next frame. When the shade list, the frame start, the completion and the terminal count have been taken, every segment of a row and an enabled lamp that the report names, in a column it covers whole, has the value 0 in the lamp's active bank, whatever the table, the recipe and the swivel. -/
def Obligations.AReportedRoadUserIsDarkInTheNextFrame : Prop :=
  ∀ (tag : Byte) (payload : List Byte) (s : State) (o : ShadeObject) (k : Side) (r : Row) (c : Nat)
    (l : Lamp),
    s.pending = [.shadeList .vis tag payload, .frameStart, .compositionComplete, .terminalCount] →
    s.canTake .vis → s.device = .run → s.resetn = true →
    s.engine.timer.isSome = true → s.engine.flight = none → s.beam.mode = .auto →
    payload.length % 5 = 0 → payload.length ≤ 60 →
    o ∈ (validateObjects [] (readObjects payload)).objects → o.v = 0 →
    o.rows.includes r = true → o.lamps.includes k = true →
    l = s.output.lamps.get k → l.enabled = true →
    c < 48 → o.left ≤ columnLeft c → columnLeft c + 4 ≤ o.right →
    ∃ t : State,
      Host.Core.run Sys2Proof.core 4 s = .next t ∧
        (t.output.lamps.get k).activeBank.valueAt (mapRow l.rowSwap r) (mapColumn l.colReverse c) = 0

/-- Every step keeps the values of the beam in their ranges, and under them every segment line's compare value lies from 0 to 1023. -/
def Obligations.StepsKeepTheBrightnessInRange : Prop :=
  ∀ s t : State, BrightInv s → step s = .next t →
    BrightInv t ∧ ∀ k r p, t.driveCompare k r p ≤ 1023

/-- FRAME_READ: the record of the last completed composition with the underlying outputs of a lamp and row from a column on, up to the count, 16 and the row's end; a lamp or row that does not exist is refused; nothing changed. -/
def Obligations.FrameReadGivesTheLastFrame : Prop :=
  ∀ (p : Port) (tag lamp row column count : Byte) (s : State), s.canTake p →
    ((lamp ≠ 1 ∧ lamp ≠ 2) ∨ 1 < row.toNat →
      exec (.frameRead p tag [lamp, row, column, count]) s =
        .next (s.answered p tag .frameRead [0x15])) ∧
    (∀ (k : Side) (r : Row) (values : List Nat), lamp = 1 ∨ lamp = 2 → row.toNat ≤ 1 →
      k = (if lamp = 1 then .left else .right) → r = (if row = 0 then .lower else .upper) →
      values =
        (((s.engine.ramp.get k).row r).toList.drop column.toNat).take (min 16 count.toNat) →
      exec (.frameRead p tag [lamp, row, column, count]) s =
        .next
          (s.answered p tag .frameRead
            ([0x00] ++ wordBytes (BitVec.ofNat 16 s.engine.frameCount) ++
              [ BitVec.ofInt 8 s.engine.swivel
              , if s.engine.flight = none then 0x00 else 0x01
              , BitVec.ofNat 8 (flagBit s.engine.addSat + 2 * flagBit s.engine.swivelClip)
              , BitVec.ofNat 8 s.engine.riseLimited
              , lamp, row, column, BitVec.ofNat 8 values.length ] ++
              values.flatMap fun n => wordBytes (BitVec.ofNat 16 n))))

/-! ## The Output Stage -/

/-- What each lamp shows. Outside RUN, and in RUN at level SAFE, no segment of a logical UPPER row is lit, whatever the banks, the flash, the fallback and the wiring settings; a disabled lamp is dark in every state. Outside RUN an enabled lamp shows the LIMP pattern while LOW_REQ is high, at SAFE its fallback, else the flash or the active bank. -/
def Obligations.NoUpperRowIsLitOutsideNormalRunning : Prop :=
  ∀ (s : State) (k : Side) (l : Lamp) (limp retained : Row → Nat → Nat),
    l = s.output.lamps.get k →
    (∀ (r logical : Row) (p c : Nat),
      logical = (if l.rowSwap = true then (if r = .lower then .upper else .lower) else r) →
      c = (if l.colReverse = true then 47 - p else p) →
      limp r p = if logical = .upper then 0 else if 16 ≤ c ∧ c ≤ 39 then 640 else 320) →
    (∀ (r : Row) (p : Nat),
      retained r p =
        if r = (if l.activeBank.placement = true then Row.upper else .lower) then
          l.activeBank.valueAt r p
        else 0) →
    (s.upperForbidden → s.upperDark k) ∧
    (l.enabled = false → ∀ r p, s.driveCompare k r p = 0) ∧
    (l.enabled = true → ∀ r, ∀ p < 48,
      (s.device ≠ .run →
        s.driveCompare k r p = if s.output.lowReq = true then limp r p else 0) ∧
      (s.device = .run → s.supervisor.level = .safe →
        s.driveCompare k r p =
          match l.fallback with
          | .retain => retained r p
          | .dark => if s.output.lowReq = true then limp r p else 0
          | .limp => limp r p) ∧
      (s.device = .run → s.supervisor.level ≠ .safe →
        s.driveCompare k r p =
          if s.output.flash = .idle then l.activeBank.valueAt r p else s.output.cycleFlashLevel))

/-- The PWM counter holds every value from 0 to 1022 in two states of its cycle of 2046, so a line of compare value k is high in 2k of them. -/
def Obligations.TheDutyIsTwiceTheCompareValue : Prop :=
  (∀ v ≤ 1022, ((List.range 2046).filter fun n => decide (pwmValue n = v)).length = 2) ∧
    (∀ k ≤ 1023, ((List.range 2046).filter (lineHigh k)).length = 2 * k) ∧
    ∀ (s : State) (k : Side) (r : Row) (p n : Nat),
      s.segmentLine k r p n = (s.resetn && decide (pwmValue n < s.driveCompare k r p))

/-- A terminal count swaps the COMPLETE shadows of enabled lamps, takes the flash request and applies it, and reads flash_level; the expiry of the flash timer leaves the flash shown until the next one; an edge on LOW_REQ sets the line. -/
def Obligations.TerminalCountSwapsAndTakesTheFlash : Prop :=
  ∀ s : State,
    (s.resetn = true →
      exec .terminalCount s =
        .next
          { s with
            beam := { s.beam with flash := .none }
            output :=
              { lamps :=
                  s.output.lamps.map fun (l : Lamp) =>
                    if l.enabled = true ∧ l.shadow = .complete then
                      { l with active := l.active.other, shadow := .empty }
                    else l
                pwmState := 2045
                flash :=
                  match s.beam.flash, s.output.flash with
                  | .start d, _ => .showing d
                  | .cancel, _ => .idle
                  | .none, .showing d => .showing d
                  | .none, _ => .idle
                cycleFlashLevel := s.params.flashLevel
                lowReq := s.output.lowReq } }) ∧
    (∀ d, s.output.flash = .showing d →
      exec .flashTimerExpiry s = .next { s with output := { s.output with flash := .expired } }) ∧
    (∀ edge,
      exec (.lowReqEdge edge) s =
        .next { s with output := { s.output with lowReq := decide (edge = .rising) } })

/-- LAMP_CONTROL writes the four settings of each lamp it selects. A disable of an enabled lamp zeroes its banks and ramp state and discards its part of a composition in flight; written off while off, only the placement records follow. A selector or fallback that names nothing refuses the request whole. -/
def Obligations.LampControlWritesTheSettings : Prop :=
  ∀ (tag sel settings fb : Byte) (s : State) (fallback : Fallback) (chosen drops : Side → Bool)
    (lamps : PerSide Lamp),
    s.canTake .cab →
    ((sel = 0 ∨ 3 < sel.toNat ∨ 2 < fb.toNat) →
      exec (.lampControl .cab tag [sel, settings, fb]) s =
        .next (s.answered .cab tag .lampControl [0x15])) ∧
    (1 ≤ sel.toNat → sel.toNat ≤ 3 → fb.toNat ≤ 2 →
      fallback = (if fb = 0 then .retain else if fb = 1 then .dark else .limp) →
      (∀ k, chosen k = decide (sel = 3 ∨ sel = (if k = .left then 1 else 2))) →
      (∀ k,
        drops k = (chosen k && (s.output.lamps.get k).enabled && !settings.getLsbD 0)) →
      (∀ k (l : Lamp),
        l =
          { s.output.lamps.get k with
            enabled := settings.getLsbD 0
            fallback := fallback
            colReverse := settings.getLsbD 1
            rowSwap := settings.getLsbD 2 } →
        lamps.get k =
          if chosen k = false then s.output.lamps.get k
          else if drops k = true then
            { l with
              bankA := { values := TwoRows.zero 48, placement := l.rowSwap }
              bankB := { values := TwoRows.zero 48, placement := l.rowSwap }
              shadow := .empty }
          else if settings.getLsbD 0 = true then l
          else
            { l with
              bankA := { l.bankA with placement := l.rowSwap }
              bankB := { l.bankB with placement := l.rowSwap } }) →
      exec (.lampControl .cab tag [sel, settings, fb]) s =
        .next
          ({ s with
              output := { s.output with lamps := lamps }
              engine :=
                { s.engine with
                  ramp :=
                    { left := if drops .left = true then TwoRows.zero 48 else s.engine.ramp.left
                      right := if drops .right = true then TwoRows.zero 48 else s.engine.ramp.right }
                  flight :=
                    s.engine.flight.map fun (x : Latched) =>
                      { x with
                        lamps :=
                          { left :=
                              { x.lamps.left with
                                discarded := x.lamps.left.discarded || drops .left }
                            right :=
                              { x.lamps.right with
                                discarded := x.lamps.right.discarded || drops .right } } } } }.answered
            .cab tag .lampControl
            (0x00 ::
              [lamps.left, lamps.right].flatMap fun (l : Lamp) =>
                [ BitVec.ofNat 8
                    (flagBit l.enabled + 2 * flagBit l.colReverse + 4 * flagBit l.rowSwap)
                , BitVec.ofNat 8 (fallbackCode l.fallback)
                , if l.active = BankId.a then 0x00 else 0x01
                , BitVec.ofNat 8 (shadowCode l.shadow) ])))

/-! ## Beam Control -/

/-- A MODE applies its four fields as one event: a code that names no mode holds the mode, a trim above 63 is clamped, the weather effect is applied, and a flash command is placed, clamped or ignored; it refreshes the CAB port. -/
def Obligations.ModeSetsTheBeam : Prop :=
  ∀ (tag c trim duration : Byte) (s : State) (code weather flash : Nat) (mode : BeamMode)
    (request : FlashRequest) (starts ignored clamped wet : Bool),
    s.canTake .cab →
    code = (c.extractLsb' 0 3).toNat → weather = (c.extractLsb' 3 2).toNat →
    flash = (c.extractLsb' 5 2).toNat →
    mode =
      (if code = 0 then .off else if code = 1 then .low else if code = 2 then .auto
        else if code = 3 then .high else s.beam.mode) →
    wet =
      (if weather = 0 then s.beam.weather else if weather = 1 then true
        else if weather = 2 then false else !s.beam.weather) →
    starts =
      decide
        (flash = 1 ∧ 1 ≤ duration.toNat ∧ s.device = .run ∧ s.supervisor.level ≠ .safe) →
    ignored = decide (flash = 3 ∨ (flash = 1 ∧ starts = false)) →
    request =
      (if starts = true then .start (min 200 duration.toNat) else if flash = 2 then .cancel
        else s.beam.flash) →
    clamped = decide (63 < trim.toNat ∨ (starts = true ∧ 200 < duration.toNat)) →
    exec (.mode .cab tag [c, trim, duration]) s =
      .next
        ((({ s with
              beam :=
                { mode := mode, trim := min 63 trim.toNat, weather := wet, flash := request } }.marked
            { Sticky.clear with inputClamp := clamped }
            (if s.ports.cab.fresh = true then [] else [.stale])).onPort
          .cab (PortState.refreshed s.params.cabTimeout)).answered
          .cab tag .mode
          ([ if 4 ≤ code ∨ ignored = true then 0x02 else if clamped = true then 0x01 else 0x00
           , BitVec.ofNat 8 (modeCode mode), BitVec.ofNat 8 (min 63 trim.toNat)
           , if wet = true then 0x01 else 0x00 ] ++
            match request with
            | .none => [0x00, 0x00]
            | .start d => [0x01, BitVec.ofNat 8 d]
            | .cancel => [0x02, 0x00]))

/-! ## The Supervisor -/

/-- A REFCLK edge counts to 8; a window close moves the Clock Monitor by the table of R125 and starts both counters again, and a change of its state raises CLOCK and is reported to the level. -/
def Obligations.TheClockMonitorMovesByItsWindows : Prop :=
  ∀ (s closed : State) (st : ClockState) (run : Nat), s.resetn = true →
    exec .refclkEdge s =
      .next
        { s with
          supervisor :=
            { s.supervisor with
              clock :=
                { s.supervisor.clock with refCount := min 8 (s.supervisor.clock.refCount + 1) } } } ∧
    ((st, run) =
        (if s.supervisor.clock.refCount ≠ 8 then (.limp, 0)
          else
            match s.supervisor.clock.state with
            | .unknown => if s.supervisor.clock.goodRun = 0 then (.unknown, 1) else (.ref, 0)
            | .ref => (.ref, 0)
            | .limp =>
              if s.supervisor.clock.goodRun < 15 then (.limp, s.supervisor.clock.goodRun + 1)
              else (.ref, 0)) →
      closed =
        { s with
          supervisor :=
            { s.supervisor with
              clock := { refCount := 0, internalCount := 0, state := st, goodRun := run } } } →
      exec .windowClose s =
        .next
          (if st = s.supervisor.clock.state then closed
            else (closed.recompute).marked Sticky.clear [.clock]))

/-- The tell-tale: a blink begins lit with its full on half; a change to OFF in its first ON phase is held until that phase ends, and a change back ends the hold without restarting the blink; at an expiry the phase changes. A change that replaces a blink and stands right before an expiry leaves it open whether that expiry belonged to the replaced blink, and has no further effect, or is one of the new pattern: a free value, the model's choice (assumption 25). The phase and its first mark beside a shown OFF are the model's too (assumption 11). -/
def Obligations.TheTellTaleBlinksAtLeastOnce : Prop :=
  (∀ (t : TellDriver) (x : TellPattern) (next later last : Bool),
    x.blinks = true → x ≠ t.requested → ¬(t.requested = .off ∧ t.shown = x) →
    (t.request next x).lit = true ∧ (t.request next x).timer = blinkHalf x ∧
      (t.request next x).replaced = (next && (t.replaced || t.shown.blinks)) ∧
      ((t.request next x).request later .off).lit = true ∧
      ((t.request next x).request later .off).request last x = t.request next x ∧
      ((t.request next x).request later .off).expire.lit = false ∧
      (((t.request next x).request later .off).request last .steady).shown = .steady ∧
      (t.request next x).expire.lit = false ∧
      ((t.request next x).expire.request later .off).lit = false) ∧
  (blinkHalf .slow = some 500 ∧ blinkHalf .fast = some 250) ∧
  (∀ s : State,
    s.recompute.supervisor.tell =
      if s.supervisor.computed = s.supervisor.level then s.supervisor.tell
      else
        s.supervisor.tell.request (decide (s.pending.head? = some .tellPhaseExpiry))
          (patternOfLevel s.supervisor.computed)) ∧
  ∀ (s dismissed : State) (used : Nat),
    dismissed =
      { s with
        supervisor :=
          { s.supervisor with tell := { s.supervisor.tell with replaced := false } }
        choices := s.choices + 1 } →
    used = (if s.supervisor.tell.replaced = true then s.choices + 1 else s.choices) →
    (s.supervisor.tell.shown.blinks = false → s.supervisor.tell.replaced = true →
      exec .tellPhaseExpiry s = .next dismissed) ∧
    (s.supervisor.tell.shown.blinks = true →
      (s.supervisor.tell.replaced = true ∧ exec .tellPhaseExpiry s = .next dismissed) ∨
      ((s.supervisor.tell.requested = s.supervisor.tell.shown →
        exec .tellPhaseExpiry s =
          .next
            { s with
              supervisor :=
                { s.supervisor with
                  tell :=
                    { s.supervisor.tell with
                      phaseOn := !s.supervisor.tell.phaseOn
                      firstOn := false
                      timer := blinkHalf s.supervisor.tell.shown
                      replaced := false } }
              choices := used }) ∧
      (s.supervisor.tell.requested = .off →
        exec .tellPhaseExpiry s =
          .next
            { s with
              supervisor :=
                { s.supervisor with
                  tell :=
                    { requested := .off, shown := .off, phaseOn := false, firstOn := false
                      timer := none, replaced := false } }
              choices := used })))

/-- Every step keeps the level at what the records give, the records at what their owners hold, and the tell-tale with the level. The record of the VIS freshness may differ from the port's between a change of it and the frame start that comes with it (assumption 5). -/
def Obligations.StepsKeepTheLevelTrue : Prop :=
  ∀ s t : State, LevelInv s → step s = .next t → LevelInv t

/-! ## Notices and status -/

/-- NOTICE_READ lists each pending node of the requesting port once, by descending priority and then ascending number, with the state of its line; nothing changed. -/
def Obligations.NoticeReadListsThePendingNodes : Prop :=
  ∀ (p : Port) (tag : Byte) (s : State) (nodes : Vector Node 8), s.canTake p →
    nodes = (s.ports.get p).nodes →
    ∃ items : List (Fin 8),
      (∀ i, i ∈ items ↔ nodes[i].pending = true) ∧
      (items.Pairwise fun a b =>
        nodes[b].priority < nodes[a].priority ∨
          (nodes[a].priority = nodes[b].priority ∧ a < b)) ∧
      exec (.noticeRead p tag []) s =
        .next
          (s.answered p tag .noticeRead
            ([ 0x00
             , if ∃ i : Fin 8, nodes[i].pending = true ∧ 1 ≤ nodes[i].priority then 0x01 else 0x00
             , BitVec.ofNat 8 items.length ] ++
              items.flatMap fun i =>
                [BitVec.ofNat 8 i.val, BitVec.ofNat 8 nodes[i].priority]))

/-- NOTICE_CONTROL writes the priorities and the pending flags of the requesting port's nodes as one event: a node named in both masks or in neither keeps its flag, and the line follows what the whole request leaves, and its pin is low while a pending node has priority 1 or more and high otherwise. -/
def Obligations.NoticeControlWritesTheNodes : Prop :=
  (∀ (s : State) (p : Port),
    s.noticePin p = true ↔
      ∀ n : Fin 8, (s.ports.get p).nodes[n].pending = true → (s.ports.get p).nodes[n].priority = 0) ∧
  ∀ (p : Port) (tag : Byte) (payload : List Byte) (s : State) (before after : Vector Node 8)
    (clamped : Bool),
    s.canTake p → payload.length = 10 → before = (s.ports.get p).nodes →
    (∀ (i : Fin 8) (field : Nat) (set clear : Bool),
      field = (payload.getD i.val 0).toNat → set = (payload.getD 8 0).getLsbD i.val →
      clear = (payload.getD 9 0).getLsbD i.val →
      after[i] =
        { pending := if set = clear then before[i].pending else set
          priority :=
            if field ≤ 15 then field else if field = 255 then before[i].priority else 15 }) →
    clamped = decide (∃ c ∈ payload.take 8, 16 ≤ c.toNat ∧ c.toNat ≤ 254) →
    exec (.noticeControl p tag payload) s =
      .next
        ((({ s with ports := s.ports.set p { s.ports.get p with nodes := after } }.marked
            { Sticky.clear with inputClamp := clamped } [])).answered
          p tag .noticeControl
          ([ if clamped = true then 0x01 else 0x00
           , BitVec.ofNat 8 ((List.finRange 8).map fun (i : Fin 8) => flagBit before[i].pending * 2 ^ i.val).sum
           , BitVec.ofNat 8 ((List.finRange 8).map fun (i : Fin 8) => flagBit after[i].pending * 2 ^ i.val).sum ]
            ++ (List.finRange 8).map (fun (i : Fin 8) => BitVec.ofNat 8 after[i].priority) ++
            [if ∃ i : Fin 8, after[i].pending = true ∧ 1 ≤ after[i].priority then 0x01 else 0x00]))

/-- STATUS_READ: 36 characters, each item at its offset as its owner holds it, the sticky set and the counters those of the requesting port; nothing changed but the model's count of free values. An owner is read before or after the next command where that comes with the read, a free value for each owner, with S apart from the Composition Engine's other items (assumption 9); where no command waits, or the next is the same port's, all are read as they stand. -/
def Obligations.StatusReadGivesEveryItem : Prop :=
  ∀ (p : Port) (tag : Byte) (s read : State), s.canTake p →
    read = s.onPort p (fun x => { x with receiver := .hunt, gapTimer := false }) →
    ∃ (v : StatusOwner → State) (r : List Byte),
      (∀ o,
        v o = read ∨
          ∃ c rest,
            s.pending = c :: rest ∧ c ≠ .hardReset ∧ (∀ f, requestFrame c ≠ some (p, f)) ∧
              (∀ char, c ≠ .characterReceived p char) ∧
              exec c { read with pending := rest, choices := s.choices + 1 } = .next (v o)) ∧
      exec (.statusRead p tag []) s =
        .next ({ s with choices := s.choices + 1 }.answered p tag .statusRead r) ∧
      r.length = 36 ∧
      r.take 11 =
        [ 0x00
        , BitVec.ofNat 8 (deviceCode (v .device).device)
        , BitVec.ofNat 8 (levelCode (v .supervisor).supervisor.level)
        , BitVec.ofNat 8 (modeCode (v .beam).beam.mode)
        , BitVec.ofNat 8 (v .beam).beam.trim
        , BitVec.ofNat 8
            (flagBit (v .beam).beam.weather + 2 * flagBit (v .shades).shades.traffic +
              4 * flagBit (v .steering).steering.town)
        , BitVec.ofInt 8 (v .swivel).engine.swivel
        , BitVec.ofNat 8 (sourceCode (v .steering).steering.source)
        , BitVec.ofNat 8 (decoderCode (v .steering).steering.decoder)
        , BitVec.ofNat 8 (clockCode (v .clock).supervisor.clock.state)
        , BitVec.ofNat 8
            (flagBit (v .links).ports.vis.fresh + 2 * flagBit (v .links).ports.chs.fresh +
              4 * flagBit (v .links).ports.cab.fresh) ] ∧
      (r.drop 11).take 4 =
        wordBytes (BitVec.ofNat 16 (v .engine).engine.frameCount) ++
          wordBytes (BitVec.ofNat 16 (v .engine).engine.repeatCount) ∧
      (r.drop 15).take 4 =
        [ BitVec.ofNat 8 (v .engine).engine.consecRepeats
        , BitVec.ofNat 8 (v .engine).engine.riseLimited
        , BitVec.ofNat 8
            (flagBit (v .engine).engine.addSat + 2 * flagBit (v .engine).engine.swivelClip)
        , encodeSticky ((v .links).ports.get p).sticky ] ∧
      (r.drop 19).take 8 =
        wordBytes (BitVec.ofNat 16 ((v .links).ports.get p).gapErrors) ++
          wordBytes (BitVec.ofNat 16 ((v .links).ports.get p).lengthErrors) ++
          wordBytes (BitVec.ofNat 16 ((v .links).ports.get p).crcErrors) ++
          wordBytes (BitVec.ofNat 16 ((v .links).ports.get p).dropped) ∧
      (r.drop 27).take 7 =
        [BitVec.ofNat 8 (v .shades).shades.table.length] ++
          wordBytes (BitVec.ofNat 16 (v .shades).shades.ignored) ++
          wordBytes (BitVec.ofNat 16 (v .shades).shades.coalesced) ++
          wordBytes (BitVec.ofNat 16 (v .steering).steering.slips) ∧
      r.drop 34 =
        match (v .patterns).patterns.session with
        | none => [0x00, 0x00]
        | some x =>
          [ BitVec.ofNat 8
              (1 + 2 * flagBit x.endMark + 4 * x.slot + if x.row = .upper then 16 else 0)
          , BitVec.ofNat 8 x.pointer ]

/-- STATUS_CLEAR clears the requesting port's sticky set, and with FLAGS_AND_COUNTERS its four error counters, and answers what stood before; any other option is refused and clears nothing. -/
def Obligations.StatusClearClearsTheRequestingPort : Prop :=
  ∀ (p : Port) (tag : Byte) (s : State) (flags : Byte), s.canTake p →
    flags =
      BitVec.ofNat 8
        (flagBit (s.ports.get p).sticky.addSat + 2 * flagBit (s.ports.get p).sticky.swivelClip +
          4 * flagBit (s.ports.get p).sticky.inputClamp +
          8 * flagBit (s.ports.get p).sticky.coalesced +
          16 * flagBit (s.ports.get p).sticky.objIgnored +
          32 * flagBit (s.ports.get p).sticky.profileTrunc) →
    exec (.statusClearFlags p tag []) s =
      .next
        ((s.onPort p fun x => { x with sticky := Sticky.clear }).answered
          p tag .statusClear [0x00, flags]) ∧
    exec (.statusClearFlagsAndCounters p tag []) s =
      .next
        ((s.onPort p fun x =>
            { x with
              sticky := Sticky.clear
              gapErrors := 0, lengthErrors := 0, crcErrors := 0, dropped := 0 }).answered
          p tag .statusClear
          ([0x00, flags] ++ wordBytes (BitVec.ofNat 16 (s.ports.get p).gapErrors) ++
            wordBytes (BitVec.ofNat 16 (s.ports.get p).lengthErrors) ++
            wordBytes (BitVec.ofNat 16 (s.ports.get p).crcErrors) ++
            wordBytes (BitVec.ofNat 16 (s.ports.get p).dropped))) ∧
    ∀ option : Byte, option ≠ 1 → option ≠ 2 →
      s.takeFrame p { tag := tag, kind := 0x11, payload := [option] } =
        s.answered p tag .statusClear [0x15]

/-! ## The whole part -/

/-- Outside RUN nothing is composed: every step keeps the frame timer running in RUN and, outside RUN, the table empty, the engine idle at S = 0, the ramp, banks and flash dark, no flash START waiting, and the safe latch clear. -/
def Obligations.StepsKeepStandbyQuiet : Prop :=
  ∀ s t : State, QuietInv s → step s = .next t → QuietInv t

/-- The cab controller alone sets the pattern and the configuration: no request on the VIS or the CHS port, of whatever kind and payload, changes the device state, the parameters, the profiles, recipe or session, the beam settings, the composition or the lamps. -/
def Obligations.TheCabAloneSetsPatternAndConfiguration : Prop :=
  ∀ (i : Instr) (p : Port) (f : Frame) (s t : State),
    requestFrame i = some (p, f) → p ≠ .cab → exec i s = .next t →
    t.device = s.device ∧ t.params = s.params ∧ t.patterns = s.patterns ∧ t.beam = s.beam ∧
      t.engine = s.engine ∧ t.output = s.output

/-- A refusal changes nothing: where the reply to a request carries a result of 0x10 or above, the reply is that result alone and nothing of the part has changed but the port's own link. A SHADE_LIST is left out, since it refreshes its port even where it is refused (R4). -/
def Obligations.ARefusedRequestChangesNothing : Prop :=
  ∀ (i : Instr) (p : Port) (f : Frame) (s t : State) (r : Reply) (code : Byte),
    requestFrame i = some (p, f) → s.canTake p → f.kind ≠ 0x01 → exec i s = .next t →
    (t.ports.get p).replies = (s.ports.get p).replies ++ [r] →
    r.payload.head? = some code → 0x10 ≤ code.toNat →
    t = s.onPort p (PortState.answered ⟨f.tag, f.kind + 0x80, [code]⟩)
end

