-- ==== Sys2Proof/Laws/State.lean ====
section
/-! SUPPORT. What each named update leaves of each field of the state, one lemma per field per update, so that no proof unfolds an update. -/

namespace Sys2Proof

/-! ## One value per port, per lamp, per row -/

section Shapes

variable {α β : Type} {n : Nat}

@[simp] theorem PerPort.get_set_self (x : PerPort α) (p : Port) (a : α) : (x.set p a).get p = a := by
  cases p <;> rfl

@[simp] theorem PerPort.get_set_of_ne (x : PerPort α) {p q : Port} (a : α) (h : q ≠ p) :
    (x.set p a).get q = x.get q := by
  cases p <;> cases q <;> first | rfl | exact absurd rfl h

@[simp] theorem PerPort.get_map (f : α → β) (x : PerPort α) (p : Port) :
    (x.map f).get p = f (x.get p) := by
  cases p <;> rfl

@[simp] theorem PerPort.set_set_self (x : PerPort α) (p : Port) (a b : α) :
    (x.set p a).set p b = x.set p b := by
  cases p <;> rfl

@[simp] theorem PerPort.set_get_self (x : PerPort α) (p : Port) : x.set p (x.get p) = x := by
  cases p <;> rfl

@[simp] theorem PerPort.map_set (f : α → β) (x : PerPort α) (p : Port) (a : α) :
    (x.set p a).map f = (x.map f).set p (f a) := by
  cases p <;> rfl

/-- Two values per port are equal where they are equal on every port. -/
theorem PerPort.eq_of_get {x y : PerPort α} (h : ∀ p, x.get p = y.get p) : x = y := by
  have h1 := h .vis
  have h2 := h .chs
  have h3 := h .cab
  cases x
  cases y
  simp_all [PerPort.get]

@[simp] theorem PerSide.get_set_self (x : PerSide α) (k : Side) (a : α) : (x.set k a).get k = a := by
  cases k <;> rfl

@[simp] theorem PerSide.get_set_of_ne (x : PerSide α) {k m : Side} (a : α) (h : m ≠ k) :
    (x.set k a).get m = x.get m := by
  cases k <;> cases m <;> first | rfl | exact absurd rfl h

@[simp] theorem PerSide.get_map (f : α → β) (x : PerSide α) (k : Side) :
    (x.map f).get k = f (x.get k) := by
  cases k <;> rfl

@[simp] theorem PerSide.set_get_self (x : PerSide α) (k : Side) : x.set k (x.get k) = x := by
  cases k <;> rfl

/-- Two values per lamp are equal where they are equal on both lamps. -/
theorem PerSide.eq_of_get {x y : PerSide α} (h : ∀ k, x.get k = y.get k) : x = y := by
  have h1 := h .left
  have h2 := h .right
  cases x
  cases y
  simp_all [PerSide.get]

@[simp] theorem TwoRows.row_setRow_self (x : TwoRows n) (r : Row) (v : Vector Nat n) :
    (x.setRow r v).row r = v := by
  cases r <;> rfl

@[simp] theorem TwoRows.row_setRow_of_ne (x : TwoRows n) {r q : Row} (v : Vector Nat n) (h : q ≠ r) :
    (x.setRow r v).row q = x.row q := by
  cases r <;> cases q <;> first | rfl | exact absurd rfl h

@[simp] theorem TwoRows.row_zero (r : Row) : (TwoRows.zero n).row r = Vector.replicate n 0 := by
  cases r <;> rfl

@[simp] theorem Row.other_other (r : Row) : r.other.other = r := by
  cases r <;> rfl

end Shapes

namespace Machine

/-! ## Parameters and banks -/

@[simp] theorem Params.get_set_self (x : Params) (p : Param) (n : Nat) : (x.set p n).get p = n := by
  cases p <;> rfl

@[simp] theorem Params.get_set_of_ne (x : Params) {p q : Param} (n : Nat) (h : q ≠ p) :
    (x.set p n).get q = x.get q := by
  cases p <;> cases q <;> first | rfl | exact absurd rfl h

@[simp] theorem BankId.other_other (i : BankId) : i.other.other = i := by
  cases i <;> rfl

@[simp] theorem BankId.other_ne (i : BankId) : i.other ≠ i := by
  cases i <;> decide

@[simp] theorem Lamp.bank_setBank_self (l : Lamp) (i : BankId) (x : Bank) :
    (l.setBank i x).bank i = x := by
  cases i <;> rfl

@[simp] theorem Lamp.bank_setBank_of_ne (l : Lamp) {i j : BankId} (x : Bank) (h : j ≠ i) :
    (l.setBank i x).bank j = l.bank j := by
  cases i <;> cases j <;> first | rfl | exact absurd rfl h

@[simp] theorem Lamp.shadowBank_setShadowBank (l : Lamp) (x : Bank) :
    (l.setShadowBank x).shadowBank = x := by
  obtain ⟨_, _, _, _, active, _, _, _⟩ := l
  cases active <;> rfl

@[simp] theorem Lamp.activeBank_setShadowBank (l : Lamp) (x : Bank) :
    (l.setShadowBank x).activeBank = l.activeBank := by
  obtain ⟨_, _, _, _, active, _, _, _⟩ := l
  cases active <;> rfl

@[simp] theorem Lamp.setBank_enabled (l : Lamp) (i : BankId) (x : Bank) : (l.setBank i x).enabled = l.enabled := by
  cases i <;> rfl

@[simp] theorem Lamp.setBank_fallback (l : Lamp) (i : BankId) (x : Bank) : (l.setBank i x).fallback = l.fallback := by
  cases i <;> rfl

@[simp] theorem Lamp.setBank_colReverse (l : Lamp) (i : BankId) (x : Bank) : (l.setBank i x).colReverse = l.colReverse := by
  cases i <;> rfl

@[simp] theorem Lamp.setBank_rowSwap (l : Lamp) (i : BankId) (x : Bank) : (l.setBank i x).rowSwap = l.rowSwap := by
  cases i <;> rfl

@[simp] theorem Lamp.setBank_active (l : Lamp) (i : BankId) (x : Bank) : (l.setBank i x).active = l.active := by
  cases i <;> rfl

@[simp] theorem Lamp.setBank_shadow (l : Lamp) (i : BankId) (x : Bank) : (l.setBank i x).shadow = l.shadow := by
  cases i <;> rfl

/-! ## A port changed -/

@[simp] theorem State.onPort_device (p : Port) (f : PortState → PortState) (s : State) : (s.onPort p f).device = s.device := rfl

@[simp] theorem State.onPort_resetn (p : Port) (f : PortState → PortState) (s : State) : (s.onPort p f).resetn = s.resetn := rfl

@[simp] theorem State.onPort_params (p : Port) (f : PortState → PortState) (s : State) : (s.onPort p f).params = s.params := rfl

@[simp] theorem State.onPort_shades (p : Port) (f : PortState → PortState) (s : State) : (s.onPort p f).shades = s.shades := rfl

@[simp] theorem State.onPort_steering (p : Port) (f : PortState → PortState) (s : State) : (s.onPort p f).steering = s.steering := rfl

@[simp] theorem State.onPort_patterns (p : Port) (f : PortState → PortState) (s : State) : (s.onPort p f).patterns = s.patterns := rfl

@[simp] theorem State.onPort_beam (p : Port) (f : PortState → PortState) (s : State) : (s.onPort p f).beam = s.beam := rfl

@[simp] theorem State.onPort_engine (p : Port) (f : PortState → PortState) (s : State) : (s.onPort p f).engine = s.engine := rfl

@[simp] theorem State.onPort_output (p : Port) (f : PortState → PortState) (s : State) : (s.onPort p f).output = s.output := rfl

@[simp] theorem State.onPort_supervisor (p : Port) (f : PortState → PortState) (s : State) : (s.onPort p f).supervisor = s.supervisor := rfl

@[simp] theorem State.onPort_pending (p : Port) (f : PortState → PortState) (s : State) : (s.onPort p f).pending = s.pending := rfl

@[simp] theorem State.onPort_choices (p : Port) (f : PortState → PortState) (s : State) : (s.onPort p f).choices = s.choices := rfl

@[simp] theorem State.onPort_restartFlags (p : Port) (f : PortState → PortState) (s : State) : (s.onPort p f).restartFlags = s.restartFlags := rfl

@[simp] theorem State.onPort_ports (p : Port) (f : PortState → PortState) (s : State) :
    (s.onPort p f).ports = s.ports.set p (f (s.ports.get p)) := rfl

/-! ## A notice node set on every port -/

@[simp] theorem State.notify_device (n : Notice) (s : State) : (s.notify n).device = s.device := rfl

@[simp] theorem State.notify_resetn (n : Notice) (s : State) : (s.notify n).resetn = s.resetn := rfl

@[simp] theorem State.notify_params (n : Notice) (s : State) : (s.notify n).params = s.params := rfl

@[simp] theorem State.notify_shades (n : Notice) (s : State) : (s.notify n).shades = s.shades := rfl

@[simp] theorem State.notify_steering (n : Notice) (s : State) : (s.notify n).steering = s.steering := rfl

@[simp] theorem State.notify_patterns (n : Notice) (s : State) : (s.notify n).patterns = s.patterns := rfl

@[simp] theorem State.notify_beam (n : Notice) (s : State) : (s.notify n).beam = s.beam := rfl

@[simp] theorem State.notify_engine (n : Notice) (s : State) : (s.notify n).engine = s.engine := rfl

@[simp] theorem State.notify_output (n : Notice) (s : State) : (s.notify n).output = s.output := rfl

@[simp] theorem State.notify_supervisor (n : Notice) (s : State) : (s.notify n).supervisor = s.supervisor := rfl

@[simp] theorem State.notify_pending (n : Notice) (s : State) : (s.notify n).pending = s.pending := rfl

@[simp] theorem State.notify_choices (n : Notice) (s : State) : (s.notify n).choices = s.choices := rfl

@[simp] theorem State.notify_restartFlags (n : Notice) (s : State) : (s.notify n).restartFlags = s.restartFlags := rfl

@[simp] theorem State.notify_ports (n : Notice) (s : State) :
    (s.notify n).ports = s.ports.map (PortState.setPending n) := rfl

/-! ## Sticky flags raised on every port -/

@[simp] theorem State.raise_device (f : Sticky) (s : State) : (s.raise f).device = s.device := rfl

@[simp] theorem State.raise_resetn (f : Sticky) (s : State) : (s.raise f).resetn = s.resetn := rfl

@[simp] theorem State.raise_params (f : Sticky) (s : State) : (s.raise f).params = s.params := rfl

@[simp] theorem State.raise_shades (f : Sticky) (s : State) : (s.raise f).shades = s.shades := rfl

@[simp] theorem State.raise_steering (f : Sticky) (s : State) : (s.raise f).steering = s.steering := rfl

@[simp] theorem State.raise_patterns (f : Sticky) (s : State) : (s.raise f).patterns = s.patterns := rfl

@[simp] theorem State.raise_beam (f : Sticky) (s : State) : (s.raise f).beam = s.beam := rfl

@[simp] theorem State.raise_engine (f : Sticky) (s : State) : (s.raise f).engine = s.engine := rfl

@[simp] theorem State.raise_output (f : Sticky) (s : State) : (s.raise f).output = s.output := rfl

@[simp] theorem State.raise_supervisor (f : Sticky) (s : State) : (s.raise f).supervisor = s.supervisor := rfl

@[simp] theorem State.raise_pending (f : Sticky) (s : State) : (s.raise f).pending = s.pending := rfl

@[simp] theorem State.raise_choices (f : Sticky) (s : State) : (s.raise f).choices = s.choices := rfl

@[simp] theorem State.raise_restartFlags (f : Sticky) (s : State) : (s.raise f).restartFlags = s.restartFlags := rfl

@[simp] theorem State.raise_ports (f : Sticky) (s : State) :
    (s.raise f).ports = s.ports.map fun p => { p with sticky := p.sticky.union f } := rfl

/-! ## What an event leaves on the ports -/

@[simp] theorem State.marked_device (f : Sticky) (ns : List Notice) (s : State) : (s.marked f ns).device = s.device := rfl

@[simp] theorem State.marked_resetn (f : Sticky) (ns : List Notice) (s : State) : (s.marked f ns).resetn = s.resetn := rfl

@[simp] theorem State.marked_params (f : Sticky) (ns : List Notice) (s : State) : (s.marked f ns).params = s.params := rfl

@[simp] theorem State.marked_shades (f : Sticky) (ns : List Notice) (s : State) : (s.marked f ns).shades = s.shades := rfl

@[simp] theorem State.marked_steering (f : Sticky) (ns : List Notice) (s : State) : (s.marked f ns).steering = s.steering := rfl

@[simp] theorem State.marked_patterns (f : Sticky) (ns : List Notice) (s : State) : (s.marked f ns).patterns = s.patterns := rfl

@[simp] theorem State.marked_beam (f : Sticky) (ns : List Notice) (s : State) : (s.marked f ns).beam = s.beam := rfl

@[simp] theorem State.marked_engine (f : Sticky) (ns : List Notice) (s : State) : (s.marked f ns).engine = s.engine := rfl

@[simp] theorem State.marked_output (f : Sticky) (ns : List Notice) (s : State) : (s.marked f ns).output = s.output := rfl

@[simp] theorem State.marked_supervisor (f : Sticky) (ns : List Notice) (s : State) : (s.marked f ns).supervisor = s.supervisor := rfl

@[simp] theorem State.marked_pending (f : Sticky) (ns : List Notice) (s : State) : (s.marked f ns).pending = s.pending := rfl

@[simp] theorem State.marked_choices (f : Sticky) (ns : List Notice) (s : State) : (s.marked f ns).choices = s.choices := rfl

@[simp] theorem State.marked_restartFlags (f : Sticky) (ns : List Notice) (s : State) : (s.marked f ns).restartFlags = s.restartFlags := rfl

@[simp] theorem State.marked_ports (f : Sticky) (ns : List Notice) (s : State) :
    (s.marked f ns).ports = s.ports.map (PortState.marked f ns) := rfl

/-! ## A lamp changed -/

@[simp] theorem State.onLamp_device (k : Side) (f : Lamp → Lamp) (s : State) : (s.onLamp k f).device = s.device := rfl

@[simp] theorem State.onLamp_resetn (k : Side) (f : Lamp → Lamp) (s : State) : (s.onLamp k f).resetn = s.resetn := rfl

@[simp] theorem State.onLamp_params (k : Side) (f : Lamp → Lamp) (s : State) : (s.onLamp k f).params = s.params := rfl

@[simp] theorem State.onLamp_shades (k : Side) (f : Lamp → Lamp) (s : State) : (s.onLamp k f).shades = s.shades := rfl

@[simp] theorem State.onLamp_steering (k : Side) (f : Lamp → Lamp) (s : State) : (s.onLamp k f).steering = s.steering := rfl

@[simp] theorem State.onLamp_patterns (k : Side) (f : Lamp → Lamp) (s : State) : (s.onLamp k f).patterns = s.patterns := rfl

@[simp] theorem State.onLamp_beam (k : Side) (f : Lamp → Lamp) (s : State) : (s.onLamp k f).beam = s.beam := rfl

@[simp] theorem State.onLamp_engine (k : Side) (f : Lamp → Lamp) (s : State) : (s.onLamp k f).engine = s.engine := rfl

@[simp] theorem State.onLamp_supervisor (k : Side) (f : Lamp → Lamp) (s : State) : (s.onLamp k f).supervisor = s.supervisor := rfl

@[simp] theorem State.onLamp_ports (k : Side) (f : Lamp → Lamp) (s : State) : (s.onLamp k f).ports = s.ports := rfl

@[simp] theorem State.onLamp_pending (k : Side) (f : Lamp → Lamp) (s : State) : (s.onLamp k f).pending = s.pending := rfl

@[simp] theorem State.onLamp_choices (k : Side) (f : Lamp → Lamp) (s : State) : (s.onLamp k f).choices = s.choices := rfl

@[simp] theorem State.onLamp_restartFlags (k : Side) (f : Lamp → Lamp) (s : State) : (s.onLamp k f).restartFlags = s.restartFlags := rfl

@[simp] theorem State.onLamp_lamps (k : Side) (f : Lamp → Lamp) (s : State) :
    (s.onLamp k f).output.lamps = s.output.lamps.set k (f (s.output.lamps.get k)) := rfl

/-! ## A port with a node set -/

@[simp] theorem PortState.setPending_receiver (n : Notice) (x : PortState) : (x.setPending n).receiver = x.receiver := rfl

@[simp] theorem PortState.setPending_gapTimer (n : Notice) (x : PortState) : (x.setPending n).gapTimer = x.gapTimer := rfl

@[simp] theorem PortState.setPending_settling (n : Notice) (x : PortState) : (x.setPending n).settling = x.settling := rfl

@[simp] theorem PortState.setPending_slot (n : Notice) (x : PortState) : (x.setPending n).slot = x.slot := rfl

@[simp] theorem PortState.setPending_replies (n : Notice) (x : PortState) : (x.setPending n).replies = x.replies := rfl

@[simp] theorem PortState.setPending_gapErrors (n : Notice) (x : PortState) : (x.setPending n).gapErrors = x.gapErrors := rfl

@[simp] theorem PortState.setPending_lengthErrors (n : Notice) (x : PortState) : (x.setPending n).lengthErrors = x.lengthErrors := rfl

@[simp] theorem PortState.setPending_crcErrors (n : Notice) (x : PortState) : (x.setPending n).crcErrors = x.crcErrors := rfl

@[simp] theorem PortState.setPending_dropped (n : Notice) (x : PortState) : (x.setPending n).dropped = x.dropped := rfl

@[simp] theorem PortState.setPending_fresh (n : Notice) (x : PortState) : (x.setPending n).fresh = x.fresh := rfl

@[simp] theorem PortState.setPending_freshTimer (n : Notice) (x : PortState) : (x.setPending n).freshTimer = x.freshTimer := rfl

@[simp] theorem PortState.setPending_sticky (n : Notice) (x : PortState) : (x.setPending n).sticky = x.sticky := rfl

@[simp] theorem PortState.setPending_tally (n : Notice) (x : PortState) : (x.setPending n).tally = x.tally := rfl

/-! ## A port marked -/

@[simp] theorem PortState.marked_receiver (f : Sticky) (ns : List Notice) (x : PortState) : (x.marked f ns).receiver = x.receiver := rfl

@[simp] theorem PortState.marked_gapTimer (f : Sticky) (ns : List Notice) (x : PortState) : (x.marked f ns).gapTimer = x.gapTimer := rfl

@[simp] theorem PortState.marked_settling (f : Sticky) (ns : List Notice) (x : PortState) : (x.marked f ns).settling = x.settling := rfl

@[simp] theorem PortState.marked_slot (f : Sticky) (ns : List Notice) (x : PortState) : (x.marked f ns).slot = x.slot := rfl

@[simp] theorem PortState.marked_replies (f : Sticky) (ns : List Notice) (x : PortState) : (x.marked f ns).replies = x.replies := rfl

@[simp] theorem PortState.marked_gapErrors (f : Sticky) (ns : List Notice) (x : PortState) : (x.marked f ns).gapErrors = x.gapErrors := rfl

@[simp] theorem PortState.marked_lengthErrors (f : Sticky) (ns : List Notice) (x : PortState) : (x.marked f ns).lengthErrors = x.lengthErrors := rfl

@[simp] theorem PortState.marked_crcErrors (f : Sticky) (ns : List Notice) (x : PortState) : (x.marked f ns).crcErrors = x.crcErrors := rfl

@[simp] theorem PortState.marked_dropped (f : Sticky) (ns : List Notice) (x : PortState) : (x.marked f ns).dropped = x.dropped := rfl

@[simp] theorem PortState.marked_fresh (f : Sticky) (ns : List Notice) (x : PortState) : (x.marked f ns).fresh = x.fresh := rfl

@[simp] theorem PortState.marked_freshTimer (f : Sticky) (ns : List Notice) (x : PortState) : (x.marked f ns).freshTimer = x.freshTimer := rfl

@[simp] theorem PortState.marked_tally (f : Sticky) (ns : List Notice) (x : PortState) : (x.marked f ns).tally = x.tally := rfl

/-! ## A receiver moved -/

@[simp] theorem PortState.receive_settling (r : Receiver) (x : PortState) : (x.receive r).settling = x.settling := rfl

@[simp] theorem PortState.receive_slot (r : Receiver) (x : PortState) : (x.receive r).slot = x.slot := rfl

@[simp] theorem PortState.receive_replies (r : Receiver) (x : PortState) : (x.receive r).replies = x.replies := rfl

@[simp] theorem PortState.receive_gapErrors (r : Receiver) (x : PortState) : (x.receive r).gapErrors = x.gapErrors := rfl

@[simp] theorem PortState.receive_lengthErrors (r : Receiver) (x : PortState) : (x.receive r).lengthErrors = x.lengthErrors := rfl

@[simp] theorem PortState.receive_crcErrors (r : Receiver) (x : PortState) : (x.receive r).crcErrors = x.crcErrors := rfl

@[simp] theorem PortState.receive_dropped (r : Receiver) (x : PortState) : (x.receive r).dropped = x.dropped := rfl

@[simp] theorem PortState.receive_fresh (r : Receiver) (x : PortState) : (x.receive r).fresh = x.fresh := rfl

@[simp] theorem PortState.receive_freshTimer (r : Receiver) (x : PortState) : (x.receive r).freshTimer = x.freshTimer := rfl

@[simp] theorem PortState.receive_sticky (r : Receiver) (x : PortState) : (x.receive r).sticky = x.sticky := rfl

@[simp] theorem PortState.receive_nodes (r : Receiver) (x : PortState) : (x.receive r).nodes = x.nodes := rfl

@[simp] theorem PortState.receive_tally (r : Receiver) (x : PortState) : (x.receive r).tally = x.tally := rfl

/-! ## The level computed anew -/

@[simp] theorem State.recompute_device (s : State) : s.recompute.device = s.device := by
  unfold State.recompute
  split <;> rfl

@[simp] theorem State.recompute_resetn (s : State) : s.recompute.resetn = s.resetn := by
  unfold State.recompute
  split <;> rfl

@[simp] theorem State.recompute_params (s : State) : s.recompute.params = s.params := by
  unfold State.recompute
  split <;> rfl

@[simp] theorem State.recompute_shades (s : State) : s.recompute.shades = s.shades := by
  unfold State.recompute
  split <;> rfl

@[simp] theorem State.recompute_steering (s : State) : s.recompute.steering = s.steering := by
  unfold State.recompute
  split <;> rfl

@[simp] theorem State.recompute_patterns (s : State) : s.recompute.patterns = s.patterns := by
  unfold State.recompute
  split <;> rfl

@[simp] theorem State.recompute_beam (s : State) : s.recompute.beam = s.beam := by
  unfold State.recompute
  split <;> rfl

@[simp] theorem State.recompute_engine (s : State) : s.recompute.engine = s.engine := by
  unfold State.recompute
  split <;> rfl

@[simp] theorem State.recompute_output (s : State) : s.recompute.output = s.output := by
  unfold State.recompute
  split <;> rfl

@[simp] theorem State.recompute_pending (s : State) : s.recompute.pending = s.pending := by
  unfold State.recompute
  split <;> rfl

@[simp] theorem State.recompute_choices (s : State) : s.recompute.choices = s.choices := by
  unfold State.recompute
  split <;> rfl

@[simp] theorem State.recompute_restartFlags (s : State) :
    s.recompute.restartFlags = s.restartFlags := by
  unfold State.recompute
  split <;> rfl

/-- The level after a recomputation is the one that the records give. -/
@[simp] theorem State.recompute_level (s : State) :
    s.recompute.supervisor.level = s.supervisor.computed := by
  unfold State.recompute
  split
  · rename_i h
    exact h.symm
  · rfl

end Machine

end Sys2Proof
end

