-- ==== Sys2Proof/Laws/Ops.lean ====
section
/-! SUPPORT. For each shared operation, what it can do, said once: the marks of an event, the level, a request from its frame to its reply, the frame timer, the edit session, the fields of a payload, what lies open between two commands, and the levels of a line. -/

namespace Sys2Proof

/-! ## The kinds of a request (R158) -/

/-- The code of a kind names that kind. -/
@[simp] theorem RequestKind.ofCode_code (k : RequestKind) : RequestKind.ofCode k.code = some k := by
  cases k <;> rfl

namespace Machine

/-! ## The marks of an event (R134, R140) -/

/-- A set of flags joined with the empty set. -/
@[simp] theorem Sticky.union_clear (f : Sticky) : f.union Sticky.clear = f := by
  cases f
  simp [Sticky.union, Sticky.clear]

/-- A port marked with nothing. -/
@[simp] theorem PortState.marked_nothing (x : PortState) : x.marked Sticky.clear [] = x := by
  cases x
  simp [PortState.marked]

/-- A state marked with nothing. -/
@[simp] theorem State.marked_nothing (s : State) : s.marked Sticky.clear [] = s := by
  cases s
  simp [State.marked, PerPort.map]

/-- A raising of flags is a mark without a node (R140). -/
theorem State.raise_eq_marked (f : Sticky) (s : State) : s.raise f = s.marked f [] := by
  simp [State.raise, State.marked, PortState.marked, PerPort.map]

/-- A node set is the mark of that node (R134). -/
theorem PortState.setPending_eq_marked (n : Notice) (x : PortState) :
    x.setPending n = x.marked Sticky.clear [n] := by
  obtain ⟨_, _, _, _, _, _, _, _, _, _, _, _, nodes, _⟩ := x
  simp only [PortState.setPending, PortState.marked, Sticky.union_clear, PortState.mk.injEq, true_and,
    and_true]
  ext i hi
  all_goals
    simp only [Vector.getElem_set, Vector.getElem_ofFn, List.any_cons, List.any_nil, Bool.or_false,
      Fin.getElem_fin]
    by_cases h : n.number.val = i
    · subst h
      simp
    · have h' : (n.number == (⟨i, hi⟩ : Fin 8)) = false := by
        simpa [beq_eq_false_iff_ne, Fin.ext_iff] using h
      simp [h, h']

/-- An event is the mark of its node on every port (R134). -/
theorem State.notify_eq_marked (n : Notice) (s : State) : s.notify n = s.marked Sticky.clear [n] := by
  simp only [State.notify, State.marked]
  congr 1
  simp [PerPort.map, PortState.setPending_eq_marked]

/-- Two marks, one after the other, are one mark with the flags and the nodes of both. -/
theorem PortState.marked_marked (f g : Sticky) (ms ns : List Notice) (x : PortState) :
    (x.marked f ms).marked g ns = x.marked (f.union g) (ms ++ ns) := by
  obtain ⟨_, _, _, _, _, _, _, _, _, _, _, sticky, nodes, _⟩ := x
  simp [PortState.marked, Sticky.union, Bool.or_assoc]

/-- Two marks of the state are one. -/
theorem State.marked_marked (f g : Sticky) (ms ns : List Notice) (s : State) :
    (s.marked f ms).marked g ns = s.marked (f.union g) (ms ++ ns) := by
  simp [State.marked, PerPort.map, PortState.marked_marked]

/-! ## The level (R118, R119, R121) -/

/-- A recomputation leaves the state as it is, or moves the level to another one with LEVEL set and the tell-tale asked for its pattern. -/
theorem State.recompute_cases (s : State) :
    (s.supervisor.computed = s.supervisor.level ∧ s.recompute = s) ∨
      (s.supervisor.computed ≠ s.supervisor.level ∧
        s.recompute =
          { s with
            supervisor :=
              { s.supervisor with
                level := s.supervisor.computed
                tell :=
                  s.supervisor.tell.request s.tellExpiryNext (patternOfLevel s.supervisor.computed) } }.notify
            .level) := by
  unfold State.recompute
  split
  · exact .inl ⟨‹_›, rfl⟩
  · exact .inr ⟨‹_›, rfl⟩

/-- The records give SAFE exactly outside RUN or with the safe latch set (R118). -/
theorem Supervisor.computed_safe (x : Supervisor) :
    x.computed = .safe ↔ (x.recDevice ≠ .run ∨ x.safeLatch = true) := by
  unfold Supervisor.computed
  split
  · simp_all
  · split
    · simp_all
    · split <;> simp_all

/-- The records give BASIC exactly in RUN with the latch clear and the VIS port STALE (R118). -/
theorem Supervisor.computed_basic (x : Supervisor) :
    x.computed = .basic ↔
      (x.recDevice = .run ∧ x.safeLatch = false ∧ x.recVisFresh = false) := by
  unfold Supervisor.computed
  split
  · rename_i h
    rcases h with h | h <;> simp [h]
  · split
    · simp_all
    · split <;> simp_all

/-- What the tell-tale driver shows after a request of its present pattern. -/
@[simp] theorem TellDriver.request_requested (t : TellDriver) (next : Bool) :
    t.request next t.requested = t := by
  simp [TellDriver.request]

/-- The requested pattern after a request. -/
@[simp] theorem TellDriver.requested_request (t : TellDriver) (next : Bool) (x : TellPattern) :
    (t.request next x).requested = x := by
  unfold TellDriver.request
  split
  · exact ‹x = t.requested›.symm
  · split
    · rename_i h
      exact h.1.symm
    · split <;> rfl

/-! ## A request from its frame to its reply (R150 to R152) -/

/-- A request row does what its port does with the frame it stands for. -/
theorem exec_of_requestFrame {i : Instr} {p : Port} {f : Frame} (s : State)
    (h : requestFrame i = some (p, f)) : exec i s = .next (s.takeFrame p f) := by
  cases i <;> simp only [requestFrame, Option.some.injEq, Prod.mk.injEq, reduceCtorEq] at h <;>
    obtain ⟨rfl, rfl⟩ := h <;> rfl

/-- A frame that comes during BOOT is lost. -/
theorem State.takeFrame_of_boot {s : State} (p : Port) (f : Frame) (h : s.device = .boot) :
    s.takeFrame p f = s := by
  simp [State.takeFrame, State.takeFrameReading, h]

/-- A frame that a port takes is dispatched from the request slot, and its reply placed. -/
theorem State.takeFrameReading_of_canTake {s : State} {p : Port} (v : StatusOwner → State) (f : Frame)
    (h : s.canTake p) :
    s.takeFrameReading v p f =
      (((s.onPort p fun x => { x.frameIn with slot := some f }).dispatch v p f).1.onPort p
        (PortState.placeReply f
          ((s.onPort p fun x => { x.frameIn with slot := some f }).dispatch v p f).2)) := by
  obtain ⟨h1, h2⟩ := h
  have h3 : ¬Config.queueCapacity ≤ ((s.onPort p PortState.frameIn).ports.get p).places := by
    simp only [State.onPort_ports, PerPort.get_set_self]
    exact Nat.not_le.2 h2
  have h4 :
      ((s.onPort p PortState.frameIn).onPort p fun x => { x with slot := some f }) =
        s.onPort p fun x => { x.frameIn with slot := some f } := by
    simp [State.onPort]
  simp only [State.takeFrameReading, if_neg h1, if_neg h3, h4]

/-- The same for the event that completes the frame. -/
theorem State.takeFrame_of_canTake {s : State} {p : Port} (f : Frame) (h : s.canTake p) :
    s.takeFrame p f =
      (((s.onPort p fun x => { x.frameIn with slot := some f }).dispatch (s.ownersRead p) p
          f).1.onPort p
        (PortState.placeReply f
          ((s.onPort p fun x => { x.frameIn with slot := some f }).dispatch (s.ownersRead p) p
            f).2)) :=
  State.takeFrameReading_of_canTake (s.ownersRead p) f h

/-- A request that its owner answers without a change of state leaves its reply and nothing else. -/
theorem State.takeFrame_of_dispatch_same {s : State} {p : Port} {f : Frame} {r : List Byte}
    (h : s.canTake p)
    (hd :
      (s.onPort p fun x => { x.frameIn with slot := some f }).dispatch (s.ownersRead p) p f =
        (s.onPort p fun x => { x.frameIn with slot := some f }, r)) :
    s.takeFrame p f =
      s.onPort p (PortState.answered { tag := f.tag, kind := f.kind + 0x80, payload := r }) := by
  rw [State.takeFrame_of_canTake f h, hd]
  simp [State.onPort, PortState.answered, PortState.placeReply, PortState.frameIn,
    PortState.receive]

/-- A KIND that names a request, on a port where it is permitted and with a length it allows, reaches its owner. -/
theorem State.dispatch_of_served {p : Port} {f : Frame} {k : RequestKind} (v : StatusOwner → State)
    (s : State) (hk : RequestKind.ofCode f.kind = some k) (hp : k.permitted p = true)
    (hl : k.lenAllowed f.payload.length = true) :
    s.dispatch v p f = s.serve v k p f.payload := by
  simp [State.dispatch, hk, hp, hl]

/-! ## A STATUS_READ and the event that comes with it (R142) -/

/-- A request of any other KIND does not ask what a STATUS_READ finds. -/
theorem State.dispatch_reads_nothing {f : Frame} (v w : StatusOwner → State) (p : Port) (s : State)
    (h : RequestKind.ofCode f.kind ≠ some .statusRead) : s.dispatch v p f = s.dispatch w p f := by
  unfold State.dispatch
  split
  · rfl
  · rename_i k hk
    cases k <;> first | rfl | exact absurd hk h

/-- The same for the whole of such a request. -/
theorem State.takeFrameReading_reads_nothing {f : Frame} (v w : StatusOwner → State) (p : Port)
    (s : State) (h : RequestKind.ofCode f.kind ≠ some .statusRead) :
    s.takeFrameReading v p f = s.takeFrameReading w p f := by
  simp only [State.takeFrameReading, State.dispatch_reads_nothing v w _ _ h]

/-- Each owner is read as it stands, or as the next command leaves it. -/
theorem State.ownersRead_cases (p : Port) (s : State) (o : StatusOwner) :
    s.ownersRead p o = s.completing p ∨
      ∃ c rest,
        s.pending = c :: rest ∧ comesWithRequest p c = true ∧
          s.ownersRead p o =
            { s.completing p with pending := rest, choices := s.choices + 1 }.preview c := by
  rcases hp : s.pending with _ | ⟨c, rest⟩
  · exact .inl (by simp [State.ownersRead, hp])
  · by_cases hc : comesWithRequest p c = true
    · by_cases hn : Config.readAfterNext s.choices o.number = true
      · exact .inr ⟨c, rest, rfl, hc, by simp [State.ownersRead, hp, hc, hn]⟩
      · exact .inl (by simp [State.ownersRead, hp, hc, hn])
    · exact .inl (by simp [State.ownersRead, hp, hc])

/-- With no command waiting a STATUS_READ finds every owner as it stands. -/
theorem State.ownersRead_of_empty {s : State} (p : Port) (h : s.pending = []) (o : StatusOwner) :
    s.ownersRead p o = s.completing p := by
  simp [State.ownersRead, h]

/-- How the frame came in makes no difference to what a STATUS_READ finds. -/
theorem State.ownersRead_congr {s t : State} {p : Port} (hp : t.pending = s.pending)
    (hc : t.choices = s.choices) (h : t.completing p = s.completing p) :
    t.ownersRead p = s.ownersRead p := by
  simp only [State.ownersRead, hp, hc, h]

/-- What a STATUS_READ may find of a command that completes no other STATUS_READ is that command's meaning. -/
theorem State.exec_eq_preview {c : Instr} {s : State}
    (h : ∀ p f, s.completedFrame c = some (p, f) → RequestKind.ofCode f.kind ≠ some .statusRead) :
    exec c s = .next (s.preview c) := by
  cases hf : requestFrame c with
  | some x =>
    obtain ⟨p, f⟩ := x
    rw [exec_of_requestFrame s hf]
    have hk : RequestKind.ofCode f.kind ≠ some .statusRead :=
      h p f (by simp [State.completedFrame, hf])
    simp only [State.preview, hf, State.takeFrame,
      State.takeFrameReading_reads_nothing (s.ownersRead p) (fun _ => s) p s hk]
  | none =>
    cases c <;> first
      | (simp only [requestFrame, reduceCtorEq] at hf; done)
      | rfl
      | skip
    rename_i p char
    simp only [exec, execCharacterReceived, State.takeCharacter, State.preview, requestFrame,
      State.takeCharacterReading]
    by_cases hb : s.device = .boot
    · simp [hb]
    by_cases hs : (s.ports.get p).settling = true
    · simp [hb, hs, State.assemble, PortState.settled, PortState.receive]
    · simp only [if_neg hb, if_neg hs, State.assemble]
      split <;> try rfl
      split
      · rename_i hr hc
        rw [State.takeFrameReading_reads_nothing (s.ownersRead p) (fun _ => s)]
        exact h p _ (by simp [State.completedFrame, requestFrame, hr, hc, hs])
      · rfl

/-! ## The frame timer (R66 to R69) -/

/-- A frame start that finds the engine IDLE begins a composition. -/
theorem State.frameStart_of_idle {s : State} (h : s.engine.flight = none) :
    s.frameStart =
      { s with engine := { s.engine with timer := some s.params.framePeriod } }.beginComposition := by
  simp [State.frameStart, h]

/-- A frame start that finds the engine COMPOSING is skipped. -/
theorem State.frameStart_of_flight {s : State} {x : Latched} (h : s.engine.flight = some x) :
    s.frameStart =
      { s with engine := { s.engine with timer := some s.params.framePeriod } }.skipFrame := by
  simp [State.frameStart, h]

/-- The latched level is one of those that stand between the reports. -/
theorem pickLevel_cases (n : Nat) (first : Level) (later : List Level) :
    pickLevel n first later = first ∨ pickLevel n first later ∈ later := by
  unfold pickLevel
  split
  · exact .inl rfl
  · have hn : n % (later.length + 1) < (first :: later).length := by
      simpa using Nat.mod_lt n (Nat.succ_pos later.length)
    rw [List.getElem?_eq_getElem hn]
    exact List.mem_cons.1 (List.getElem_mem hn)

/-- Where no VIS change comes with a frame start, its owners are asked by the steering query alone. -/
theorem State.askOwners_of_not_due {s : State} (h : s.serveSnapshot.visReportDue = none) :
    s.askOwners =
      { snapshot := s.serveSnapshot
        start := s.serveSnapshot
        agreement := s.serveSnapshot.steeringQuery.afterStep1
        between := s.serveSnapshot.steeringQuery.afterStep1
        source := s.serveSnapshot.steeringQuery.after
        after := s.serveSnapshot.steeringQuery.after } := by
  simp [State.askOwners, h, State.takeVisReport, State.steeringQuery]

/-- An event of the part changes nothing of what decides which command changes the VIS port's freshness. -/
theorem State.visReportDue_notify (n : Notice) (s : State) :
    (s.notify n).visReportDue = s.visReportDue := by
  have fresh : (s.notify n).ports.vis.fresh = s.ports.vis.fresh := rfl
  have c : ∀ i, (s.notify n).completedFrame i = s.completedFrame i := by
    intro i; cases i <;> simp [State.completedFrame, requestFrame]
  have k : ∀ p f, (s.notify n).kindReached p f = s.kindReached p f := by
    intro p f; cases p <;> rfl
  have v : ∀ i, (s.notify n).visChange i = s.visChange i := by
    intro i; simp only [State.visChange, c, k, fresh]
  simp only [State.visReportDue, State.nextVisChange, fresh, State.notify_supervisor,
    State.notify_pending, funext v]

/-- The snapshot of the Shade Table leaves the VIS change that comes with a frame start. -/
theorem State.serveSnapshot_visReportDue (s : State) :
    s.serveSnapshot.visReportDue = s.visReportDue := by
  simp only [State.serveSnapshot]
  split
  · rfl
  · exact State.visReportDue_notify _ _

/-- The share of a lamp disabled since is at most its segments that are rise-limited from 0 (R80). -/
theorem State.limitedShare_of_discarded {s : State} {x : Latched} {swivel : Int} {k : Side}
    (h : (x.lamps.get k).discarded = true) :
    s.limitedShare x swivel k ≤
      (x.lampSegments swivel k (TwoRows.zero 48)).countP fun y => y.limited := by
  simp only [State.limitedShare, h, if_true]
  split
  · exact Nat.zero_le _
  · exact Nat.le_of_lt_succ (Nat.mod_lt _ (Nat.succ_pos _))

/-- A lamp's share of the rise-limited count is at most its 96 segments. -/
theorem State.limitedShare_le (s : State) (x : Latched) (swivel : Int) (k : Side) :
    s.limitedShare x swivel k ≤ 96 := by
  have len : ∀ u, (x.lampSegments swivel k u).countP Segment.limited ≤ 96 := fun u =>
    List.countP_le_length.trans (by simp [Latched.lampSegments])
  by_cases h : (x.lamps.get k).discarded = true
  · exact (State.limitedShare_of_discarded h).trans (len _)
  · simp only [State.limitedShare, if_neg h]
    split
    · exact Nat.zero_le _
    · exact len _

/-! ## Freshness and the limit test (R33, R153) -/

/-- A refresh of a FRESH port loads its timer and does nothing else. -/
theorem State.refresh_of_fresh {s : State} {p : Port} (h : (s.ports.get p).fresh = true) :
    s.refresh p = s.onPort p (PortState.refreshed (s.params.timeout p)) := by
  simp [State.refresh, h, State.onPort, PortState.refreshed]

/-- The limit test faults a REFERENCED decoder beyond the limit and changes nothing else. -/
theorem limitTest_eq (limit : Nat) (x : Steering) :
    limitTest limit x =
      { x with
        decoder :=
          if x.decoder = .referenced ∧ limit < centreDistance x.count then .faulted
          else x.decoder } := by
  unfold limitTest
  split <;> rfl

/-! ## The edit session (R54, R55) -/

/-- A session that is open closes with EDIT; with none open nothing happens. -/
theorem State.closeSession_cases (s : State) :
    (s.patterns.session = none ∧ s.closeSession = s) ∨
      (s.patterns.session.isSome = true ∧
        s.closeSession =
          { s with patterns := { s.patterns with session := none } }.notify .edit) := by
  unfold State.closeSession
  split
  · exact .inl ⟨‹_›, rfl⟩
  · rename_i h
    exact .inr ⟨by simp [h], rfl⟩

/-- The rows of a slot after one of them is written. -/
theorem PatternMemory.slotRows_setRow (m : PatternMemory) {slot : Nat} (h : slot < 4) (r : Row)
    (v : Vector Nat 80) : (m.setRow slot r v).slotRows slot = (m.slotRows slot).setRow r v := by
  simp [PatternMemory.slotRows, PatternMemory.setRow, h]

/-- A slot that is not written keeps its rows. -/
theorem PatternMemory.slotRows_setRow_of_ne (m : PatternMemory) {a b : Nat} (h : b ≠ a) (r : Row)
    (v : Vector Nat 80) : (m.setRow a r v).slotRows b = m.slotRows b := by
  by_cases hb : b < 4
  · simp [PatternMemory.slotRows, PatternMemory.setRow, hb, h.symm]
  · simp [PatternMemory.slotRows, hb]

/-! ## Counters and fields (R16, R157) -/

/-- A counter within its bound stays within it. -/
theorem bump_le {bound n : Nat} : bump bound n ≤ bound := Nat.min_le_left _ _

/-- A counter within its bound does not fall. -/
theorem le_bump {bound n : Nat} (h : n ≤ bound) : n ≤ bump bound n :=
  Nat.le_min.2 ⟨h, Nat.le_succ n⟩

/-- A clamped value lies in its range. -/
theorem clampParam_range (p : Param) (n : Nat) :
    Config.paramMin p ≤ clampParam p n ∧ clampParam p n ≤ Config.paramMax p := by
  cases p <;> simp [clampParam, Config.paramMin, Config.paramMax]

/-- Bit `i` of a character, however it is read. -/
theorem bitAt_eq_getLsbD (c : Byte) (i : Nat) : bitAt c i = c.getLsbD i := by
  simp [bitAt, bitField, BitVec.getLsbD, Nat.testBit, Nat.shiftRight_eq_div_pow]

/-- A word of 16 bits as two characters, from the number or from the bits. -/
theorem encode16_eq_wordBytes (n : Nat) : encode16 n = wordBytes (BitVec.ofNat 16 n) := by
  have h1 : (BitVec.ofNat 16 n).extractLsb' 8 8 = BitVec.ofNat 8 (n / 256) := by
    apply BitVec.eq_of_toNat_eq
    simp [BitVec.extractLsb'_toNat, Nat.shiftRight_eq_div_pow]
    omega
  have h0 : (BitVec.ofNat 16 n).extractLsb' 0 8 = BitVec.ofNat 8 n := by
    apply BitVec.eq_of_toNat_eq
    simp [BitVec.extractLsb'_toNat]
  rw [encode16, wordBytes, h1, h0]

/-! ## What lies open between two neighbouring commands (R86, R131, R146) -/

/-- The flags that outlast a RESTART are all or none, and none where the next command is no RESTART (R86). -/
theorem State.flagsOutlasting_cases (s : State) (f : Sticky) :
    s.flagsOutlasting f = Sticky.clear ∨ (s.flagsOutlasting f = f ∧ s.restartNext = true) := by
  unfold State.flagsOutlasting
  split <;> simp_all

/-- An expiry of the phase timer that stands after no replaced blink is that of the shown pattern (R130). -/
theorem State.expireTellPhase_shown (s : State) (h : s.supervisor.tell.replaced = false) :
    s.expireTellPhase =
      { s with supervisor := { s.supervisor with tell := s.supervisor.tell.expire } } := by
  simp [State.expireTellPhase, h]

/-- After the wait for a quiet line a character is taken in the state it finds (R146). -/
theorem State.takeCharacterReading_settled (v : StatusOwner → State) (p : Port) (c : Byte)
    (s : State) (hb : s.device ≠ .boot) (h : (s.ports.get p).settling = false) :
    s.takeCharacterReading v p c = s.assemble v p c := by
  simp [State.takeCharacterReading, hb, h]

/-! ## Levels of a line (R143) -/

@[simp] theorem lineCharacters_nil (r : LineReceiver) : lineCharacters r [] = [] := rfl

@[simp] theorem characterLevels_length (c : Byte) : (characterLevels c).length = 10 := rfl

/-- A line that is low after a stop bit brings nothing until it goes high. -/
theorem lineCharacters_waitHigh (low : Nat) (rest : List Bool) :
    lineCharacters .waitHigh (List.replicate low false ++ true :: rest) =
      lineCharacters .idle rest := by
  induction low with
  | zero => rfl
  | succ n ih => simpa [List.replicate_succ, lineCharacters, LineReceiver.sample] using ih

end Machine

end Sys2Proof
end

