-- ==== Sys2Proof/Laws/PerInstr.lean ====
section
/-! SUPPORT. Statements for all commands, made per constructor: a well-formed request row stands for a frame whose payload a LEN character can announce (R144). -/

namespace Sys2Proof.Laws.FrameFits

/-- The frame of a well-formed command has at most 60 payload characters. -/
def Statement (i : Instr) : Prop :=
  i.wellFormed = true → ∀ p f, requestFrame i = some (p, f) → f.payload.length ≤ maxPayload

/-- A row that stands for one frame, whose payload fits where the row is well formed. -/
theorem of_frame {i : Instr} {p : Port} {f : Frame} (hf : requestFrame i = some (p, f))
    (h : i.wellFormed = true → payloadFits f.payload = true) : Statement i := by
  intro hw q g hg
  rw [hf] at hg
  cases hg
  exact of_decide_eq_true (h hw)

/-- A row that stands for no frame. -/
theorem of_no_frame {i : Instr} (h : requestFrame i = none) : Statement i := by
  intro _ p f hf
  rw [h] at hf
  cases hf

theorem shadeList (port : Port) (tag : Byte) (payload : List Byte) :
    Statement (.shadeList port tag payload) :=
  of_frame rfl id

theorem motion (port : Port) (tag : Byte) (payload : List Byte) :
    Statement (.motion port tag payload) :=
  of_frame rfl id

theorem mode (port : Port) (tag : Byte) (payload : List Byte) :
    Statement (.mode port tag payload) :=
  of_frame rfl id

theorem start (port : Port) (tag : Byte) (rest : List Byte) :
    Statement (.start port tag rest) :=
  of_frame rfl id

theorem stop (port : Port) (tag : Byte) (rest : List Byte) :
    Statement (.stop port tag rest) :=
  of_frame rfl id

theorem restart (port : Port) (tag : Byte) (rest : List Byte) :
    Statement (.restart port tag rest) :=
  of_frame rfl id

theorem configWrite (port : Port) (tag : Byte) (payload : List Byte) :
    Statement (.configWrite port tag payload) :=
  of_frame rfl id

theorem lampControl (port : Port) (tag : Byte) (payload : List Byte) :
    Statement (.lampControl port tag payload) :=
  of_frame rfl id

theorem recipeWrite (port : Port) (tag : Byte) (payload : List Byte) :
    Statement (.recipeWrite port tag payload) :=
  of_frame rfl id

theorem profileOpen (port : Port) (tag : Byte) (payload : List Byte) :
    Statement (.profileOpen port tag payload) :=
  of_frame rfl id

theorem profileData (port : Port) (tag : Byte) (payload : List Byte) :
    Statement (.profileData port tag payload) :=
  of_frame rfl id

theorem profileClose (port : Port) (tag : Byte) (payload : List Byte) :
    Statement (.profileClose port tag payload) :=
  of_frame rfl id

theorem statusRead (port : Port) (tag : Byte) (payload : List Byte) :
    Statement (.statusRead port tag payload) :=
  of_frame rfl id

theorem statusClearFlags (port : Port) (tag : Byte) (rest : List Byte) :
    Statement (.statusClearFlags port tag rest) :=
  of_frame rfl id

theorem statusClearFlagsAndCounters (port : Port) (tag : Byte) (rest : List Byte) :
    Statement (.statusClearFlagsAndCounters port tag rest) :=
  of_frame rfl id

theorem shadeRead (port : Port) (tag : Byte) (payload : List Byte) :
    Statement (.shadeRead port tag payload) :=
  of_frame rfl id

theorem frameRead (port : Port) (tag : Byte) (payload : List Byte) :
    Statement (.frameRead port tag payload) :=
  of_frame rfl id

theorem profileRead (port : Port) (tag : Byte) (payload : List Byte) :
    Statement (.profileRead port tag payload) :=
  of_frame rfl id

theorem recipeRead (port : Port) (tag : Byte) (payload : List Byte) :
    Statement (.recipeRead port tag payload) :=
  of_frame rfl id

theorem configRead (port : Port) (tag : Byte) (payload : List Byte) :
    Statement (.configRead port tag payload) :=
  of_frame rfl id

theorem noticeRead (port : Port) (tag : Byte) (payload : List Byte) :
    Statement (.noticeRead port tag payload) :=
  of_frame rfl id

theorem noticeControl (port : Port) (tag : Byte) (payload : List Byte) :
    Statement (.noticeControl port tag payload) :=
  of_frame rfl id

theorem unknownKind (port : Port) (tag kind : Byte) (payload : List Byte) :
    Statement (.unknownKind port tag kind payload) :=
  of_frame rfl fun h => (Bool.and_eq_true_iff.1 h).2

theorem lengthFault (port : Port) (len : Byte) : Statement (.lengthFault port len) := of_no_frame rfl

theorem crcFault (port : Port) (char : Byte) : Statement (.crcFault port char) := of_no_frame rfl

theorem gapTimerExpiry (port : Port) : Statement (.gapTimerExpiry port) := of_no_frame rfl

theorem replySent (port : Port) : Statement (.replySent port) := of_no_frame rfl

theorem freshnessTimerExpiry (port : Port) : Statement (.freshnessTimerExpiry port) := of_no_frame rfl

theorem frameStart : Statement .frameStart := of_no_frame rfl

theorem compositionComplete : Statement .compositionComplete := of_no_frame rfl

theorem terminalCount : Statement .terminalCount := of_no_frame rfl

theorem flashTimerExpiry : Statement .flashTimerExpiry := of_no_frame rfl

theorem windowClose : Statement .windowClose := of_no_frame rfl

theorem tellPhaseExpiry : Statement .tellPhaseExpiry := of_no_frame rfl

theorem encoderEdge (line : EncoderLine) (edge : Edge) : Statement (.encoderEdge line edge) := of_no_frame rfl

theorem indexEvent : Statement .indexEvent := of_no_frame rfl

theorem lowReqEdge (edge : Edge) : Statement (.lowReqEdge edge) := of_no_frame rfl

theorem hardReset : Statement .hardReset := of_no_frame rfl

theorem resetnRise : Statement .resetnRise := of_no_frame rfl

theorem endOfBoot : Statement .endOfBoot := of_no_frame rfl

theorem refclkEdge : Statement .refclkEdge := of_no_frame rfl

theorem characterReceived (port : Port) (char : Byte) : Statement (.characterReceived port char) := of_no_frame rfl

end Sys2Proof.Laws.FrameFits
end

