-- ==== Sys2Proof/Tests/Slice0.lean ====
section
/-! SUPPORT. Tests on small states: what the well-formedness checks refuse, the manual's worked examples and tables, and for each statement with hypotheses a state and operands that meet them. -/

open Sys2Proof Sys2Proof.Machine

namespace Sys2Proof.Tests

/-! ## Small states -/

/-- The part in STANDBY after a power-up, every port STALE. -/
def standby : State :=
  { State.reset with
    device := .standby
    resetn := true
    supervisor := { Supervisor.reset with recDevice := .standby } }

/-- A layer enabled on a slot, MAX at full weight under no condition. -/
def layerOn (slot : Nat) : Layer := { Layer.reset with enabled := true, slot := slot, weight := 128 }

/-- STANDBY with layer 0 enabled on slot 0. -/
def ready : State :=
  { standby with
    patterns := { standby.patterns with layers := standby.patterns.layers.set 0 (layerOn 0) } }

/-- RUN at level BASIC: the VIS port STALE, the frame timer running, the engine IDLE. -/
def running : State :=
  { ready with
    device := .run
    engine := { Engine.reset with timer := some 10 }
    supervisor :=
      { Supervisor.reset with
        recDevice := .run
        level := .basic
        tell :=
          { requested := .fast, shown := .fast, phaseOn := true, firstOn := true
            timer := some 250, replaced := false } } }

/-- A port that is FRESH. -/
def withFresh (p : Port) (s : State) : State := s.onPort p (PortState.refreshed 100)

/-- A port whose receiver is outside HUNT. -/
def withReceiver (p : Port) (r : Receiver) (s : State) : State := s.receiving p r

/-- A port whose receiver waits for a quiet line since the end of BOOT. -/
def withSettling (p : Port) (s : State) : State := s.onPort p PortState.settle

/-- A port with replies queued. -/
def withReplies (p : Port) (n : Nat) (s : State) : State :=
  s.onPort p fun x =>
    { x with
      replies := List.replicate n { tag := 0, kind := 0x90, payload := [] }
      tally := { received := n, sent := 0, dropped := 0 } }

/-- RUN with a composition in flight on both lamps. -/
def composing : State :=
  { running with
    engine :=
      { running.engine with
        flight :=
          some
            { snapshot := [], flags := ⟨false, false, false⟩, target := 5, clip := false
              mode := .auto, trim := 63, layers := running.patterns.layers
              profiles := Vector.replicate 4 none, level := .basic, riseStep := 32, swivelRate := 2
              lamps := ⟨⟨true, false, false, false⟩, ⟨true, false, false, false⟩⟩ } }
    output := { running.output with lamps := running.output.lamps.map Lamp.latch } }

/-- The edit session open on slot 3, row UPPER, at column 70. -/
def editing : State :=
  withFresh .cab
    { running with
      patterns := { running.patterns with session := some ⟨3, .upper, 70, false⟩ } }

/-- The state after a command. -/
def after (i : Instr) (s : State) : State :=
  match exec i s with
  | .next t => t
  | .fault f => nomatch f
  | .refused _ => s

/-- The payload of the newest reply of a port. -/
def reply (p : Port) (s : State) : List Byte :=
  ((s.ports.get p).replies.getLast?.map Reply.payload).getD []

/-! ## What the well-formedness checks refuse -/

/-- Each request row with one payload character more than LEN can announce. -/
def tooLong (pl : List Byte) : List Instr :=
  [ .shadeList .vis 0 pl, .motion .chs 0 pl, .mode .cab 0 pl, .start .cab 0 pl, .stop .cab 0 pl
  , .restart .cab 0 pl, .configWrite .cab 0 pl, .lampControl .cab 0 pl, .recipeWrite .cab 0 pl
  , .profileOpen .cab 0 pl, .profileData .cab 0 pl, .profileClose .cab 0 pl, .statusRead .cab 0 pl
  , .statusClearFlags .cab 0 pl, .statusClearFlagsAndCounters .cab 0 pl, .shadeRead .cab 0 pl
  , .frameRead .cab 0 pl, .profileRead .cab 0 pl, .recipeRead .cab 0 pl, .configRead .cab 0 pl
  , .noticeRead .cab 0 pl, .noticeControl .cab 0 pl, .unknownKind .cab 0 0x2A pl ]

theorem test_wellFormed_refuses_long_payload :
    (tooLong (List.replicate 61 0)).all (fun i => !i.wellFormed) = true := by decide

/-- RUN_CONTROL and STATUS_CLEAR carry one character before `rest`. -/
theorem test_wellFormed_counts_the_code :
    (Instr.start .cab 0 (List.replicate 60 0)).wellFormed = false ∧
      (Instr.start .cab 0 (List.replicate 59 0)).wellFormed = true ∧
      (Instr.statusClearFlags .cab 0 (List.replicate 60 0)).wellFormed = false := by decide

theorem test_wellFormed_refuses_known_kind :
    (Instr.unknownKind .cab 0 0x18 []).wellFormed = false ∧
      (Instr.unknownKind .cab 0 0x19 []).wellFormed = true := by decide

theorem test_wellFormed_refuses_short_length_fault :
    (Instr.lengthFault .vis 60).wellFormed = false ∧
      (Instr.lengthFault .vis 61).wellFormed = true := by decide

/-! ## The manual's tables and worked examples -/

/-- R34's table. -/
theorem test_encoderSteer_table :
    encoderSteer 64 33218 = 1800 ∧ encoderSteer 64 32761 = -28 ∧ encoderSteer 10 32761 = -4 ∧
      encoderSteer 64 65535 = 7200 ∧ encoderSteer 0 30000 = 0 := by decide

/-- R40's table. -/
theorem test_rawTarget_table :
    rawTarget 41 900 = 36 ∧ rawTarget 41 (-900) = -36 ∧ rawTarget 41 24 = 0 ∧ rawTarget 41 25 = 1 ∧
      rawTarget 41 (-1600) = -64 ∧ clampSigned 64 (rawTarget 41 2000) = 64 ∧
      rawTarget 255 7200 = 1792 := by decide

/-- 2.8: the quadrature sequence forward, one step back. -/
theorem test_encoder_x4_sequence :
    (after (.encoderEdge .a .rising) standby).steering.count = 32769 ∧
      (after (.encoderEdge .b .rising) (after (.encoderEdge .a .rising) standby)).steering.count =
        32770 := by decide

/-- 2.8: the index captures 32790 in a REFERENCED decoder. -/
theorem test_index_counts_a_slip :
    let s :=
      after .indexEvent
        { standby with
          steering := { standby.steering with decoder := .referenced, count := 32790 } }
    s.steering.slips = 1 ∧ s.steering.count = 32768 ∧ s.steering.decoder = .referenced := by decide

/-- 4.9, UPPER row of the left lamp at column 36: stages 2 to 8. -/
theorem test_stages_column_36 :
    profilePosition 33 36 = 175 ∧ contribution 128 232 = 232 ∧ contribution 64 60 = 30 ∧
      (Base.combine ⟨232, false⟩ .add 30) = ⟨255, true⟩ ∧ columnLeft 36 = 48 ∧
      trimmed 48 147 = 113 ∧ widened 113 = 453 := by decide

/-- 4.9: half of the column is covered, so half of the cut applies. -/
theorem test_residual_of_half_a_column :
    let e : ShadeEntry :=
      { id := 1, aliases := [], left := 20, right := 50, rows := .upper, lamps := .both
        cls := .oncoming, v := 40, state := .active, hold := 30, veff := 40 }
    entryResidual e 36 = 147 ∧ entryResidual e 30 = 40 ∧
      residual [e] .left .lower 30 = 255 := by decide

/-- Stage 1 of 4.9 and of compositions 3 and 4 of 4.10. -/
theorem test_swivel_steps :
    swivelAfter 2 36 31 = 33 ∧ swivelAfter 2 36 35 = 36 ∧ swivelAfter 2 30 36 = 34 := by decide

set_option maxRecDepth 8000 in
/-- The frame check of nine known characters (PRESUMED, the published check value of this CRC). -/
theorem test_crc_check_value :
    crcOf [0x31, 0x32, 0x33, 0x34, 0x35, 0x36, 0x37, 0x38, 0x39] = 0x29B1 := by decide

/-- 1.8, list 1: the objects, two of them ignored, as the list carries them. -/
def list1 : List RawObject :=
  [ ⟨12, -58, 12, 0, false, 0, 3⟩, ⟨9, -3, 10, 10, false, 1, 3⟩, ⟨0, 14, 6, 0, false, 0, 3⟩
  , ⟨60, 0, 8, 0, false, 0, 3⟩, ⟨61, 36, 6, 20, false, 1, 3⟩, ⟨62, 118, 14, 0, false, 0, 3⟩
  , ⟨63, 84, 4, 30, false, 1, 3⟩, ⟨60, 4, 8, 0, false, 0, 3⟩ ]

/-- An entry of 1.8 with rows UPPER and lamps BOTH. -/
def entry (id : Nat) (l r : Int) (c : RoadClass) (st : ShadeState) (hold v veff : Nat) : ShadeEntry :=
  { id := id, aliases := [], left := l, right := r, rows := .upper, lamps := .both, cls := c, v := v
    state := st, hold := hold, veff := veff }

/-- The starting table of 1.8. -/
def table0 : List ShadeEntry :=
  [ entry 21 (-120) (-112) .sign .fading 0 80 208, entry 7 (-90) (-70) .preceding .hold 2 30 30
  , entry 12 (-60) (-48) .oncoming .active 4 0 0, entry 3 (-40) (-30) .preceding .hold 3 20 20
  , entry 15 (-20) (-8) .oncoming .hold 1 0 0, entry 9 (-5) 6 .preceding .active 4 10 10
  , entry 30 10 22 .oncoming .hold 1 0 0, entry 31 24 30 .sign .fading 0 80 208
  , entry 40 32 44 .oncoming .hold 2 0 0, entry 41 50 58 .preceding .active 4 25 25
  , entry 44 60 72 .oncoming .hold 4 0 0, entry 50 80 90 .sign .fading 0 80 208
  , entry 52 95 110 .preceding .hold 3 40 40, entry 55 112 126 .oncoming .active 4 0 0 ]

/-- 1.8: the reply to list 1 and the ids of the table after it. -/
theorem test_merge_list1 :
    let m := mergeList 4 list1 table0
    (m.matched, m.inserted, m.coalesced, m.ignored, m.clamped) = (2, 4, 0, 2, true) ∧
      m.table.map ShadeEntry.id =
        [7, 12, 3, 15, 9, 60, 30, 40, 61, 41, 44, 50, 63, 52, 55, 62] := by decide

/-- 11.4: the reply and what the pairs leave. -/
theorem test_configWrite_worked :
    let s :=
      after
        (.configWrite .cab 7
          [1, 0, 8, 7, 0x07, 0xD0, 0x0A, 0, 5, 0x0C, 0x03, 0x20, 7, 0, 64]) running
    reply .cab s = [0x02, 0x11, 0x01, 0x15, 0x00, 0x00] ∧ s.params.riseStep = 64 ∧
      s.params.townOff = 800 ∧ s.params.framePeriod = 10 := by decide

/-- 11.4: the CONFIG_READ that follows. -/
theorem test_configRead_worked :
    reply .vis
        (after (.configRead .vis 1 [7, 0x0A])
          { running with params := { running.params with riseStep := 64 } }) =
      [0x02, 7, 0, 64, 0x0A, 0xFF, 0xFF] := by decide

/-- 10.7, frames 1 to 4: which check decides. -/
theorem test_dispatch_worked :
    reply .cab (after (.shadeList .cab 1 (List.replicate 10 0)) running) = [0x10] ∧
      reply .cab (after (.mode .cab 1 [0x22, 0x30, 0x1E, 0]) running) = [0x16] ∧
      reply .cab (after (.unknownKind .cab 1 0x2A []) running) = [0x17] ∧
      ((after (.unknownKind .cab 1 0x9A [0, 0, 0]) running).ports.cab.replies.map Reply.kind) =
        [0x1A] := by decide

/-- 10.7, frame 5. -/
theorem test_mode_worked :
    reply .cab (after (.mode .cab 1 [0x22, 0x30, 0x1E]) running) =
      [0x00, 0x02, 0x30, 0x00, 0x01, 0x1E] := by decide

/-- 5.9, request 6: code 6 held, WEATHER toggled, a START of 240 brought to 200. -/
theorem test_mode_held_and_clamped :
    let s := after (.mode .cab 1 [0x3E, 48, 240]) { running with beam := ⟨.high, 48, true, .none⟩ }
    reply .cab s = [0x02, 0x03, 48, 0, 1, 200] ∧ s.ports.vis.sticky.inputClamp = true := by decide

/-- 3.8, requests 1 and 3. -/
theorem test_profileOpen_refusals :
    reply .cab (after (.profileOpen .cab 1 [0, 1, 40]) (withFresh .cab running)) = [0x12] ∧
      reply .cab (after (.profileOpen .cab 1 [2, 0, 0]) editing) = [0x13] := by decide

/-- 3.8, request 7: twenty values at column 70. -/
theorem test_profileData_truncates :
    let s := after (.profileData .cab 1 (List.replicate 20 7)) editing
    reply .cab s = [0x02, 10, 79, 1] ∧ s.ports.chs.sticky.profileTrunc = true := by decide

/-- 3.8, requests 5 and 6. -/
theorem test_recipeWrite_interlock :
    reply .cab (after (.recipeWrite .cab 1 [2, 5, 3, 0, 96]) editing) = [0x12] ∧
      reply .cab (after (.recipeWrite .cab 1 [2, 4, 3, 0, 200]) editing) = [0x01, 1] := by decide

/-- 9.9, lines 3 and 5: LEN 154, then a gap in the false frame. -/
theorem test_link_faults :
    let s := after (.lengthFault .chs 154) (withReceiver .chs (.headerLen 1 2) running)
    s.ports.chs.lengthErrors = 1 ∧ s.ports.chs.receiver = .hunt ∧
      (after (.gapTimerExpiry .chs) (withReceiver .chs (.headerLen 1 2) s)).ports.chs.gapErrors =
        1 := by decide

/-- 9.9, line 9: both places held, the MOTION is dropped. -/
theorem test_motion_dropped :
    let s := after (.motion .chs 1 [0, 1, 0, 1, 0]) (withReplies .chs 2 running)
    s.ports.chs.dropped = 1 ∧ s.steering.latch.valid = false := by decide

/-- R125: a bad window takes the monitor from REF to LIMP, and the sixteenth good one back. -/
theorem test_clock_windows :
    clockAfter .ref 0 false = (.limp, 0) ∧ clockAfter .limp 15 true = (.ref, 0) ∧
      clockAfter .unknown 1 true = (.ref, 0) := by decide

/-- R129: the patterns of the levels. -/
theorem test_tell_patterns :
    ([Level.normal, .reduced, .basic, .safe].map patternOfLevel) =
      [.off, .slow, .fast, .steady] := by decide

/-! ## One step of each of the other rows -/

theorem test_motion_clamps :
    reply .chs (after (.motion .chs 1 [0x7F, 0xFF, 0x01, 0xC1, 0]) running) =
      [0x01, 0x1C, 0x20, 0x01, 0xC1, 0x01] := by decide

theorem test_shadeList_standby_refused :
    let s := after (.shadeList .vis 1 [5, 0, 8, 0, 0x18]) standby
    reply .vis s = [0x11] ∧ s.ports.vis.fresh = true ∧ s.shades.table = [] := by decide

theorem test_start_needs_a_layer : reply .cab (after (.start .cab 1 []) standby) = [0x11] := by
  decide

theorem test_stop_in_run :
    let s := after (.stop .cab 1 []) composing
    reply .cab s = [0x00, 0x01] ∧ s.engine.flight = none ∧ s.supervisor.level = .safe := by decide

theorem test_restart_sets_its_node :
    (after (.restart .cab 1 []) { standby with ports := standby.ports.map fun p =>
      { p with nodes := Vector.replicate 8 ⟨false, 0⟩ } }).ports.vis.nodes[7].pending = true := by
  decide

theorem test_lampControl_disable :
    let s := after (.lampControl .cab 1 [1, 0x04, 0x02]) composing
    s.output.lamps.left.enabled = false ∧ s.output.lamps.left.shadow = .empty ∧
      s.output.lamps.right.shadow = .filling ∧ reply .cab s = [0x00, 4, 2, 0, 0, 1, 2, 0, 1] := by
  decide

theorem test_profileClose_needs_a_session :
    reply .cab (after (.profileClose .cab 1 []) running) = [0x14] := by decide

theorem test_statusRead_length :
    (reply .vis (after (.statusRead .vis 1 []) running)).length = 36 := by decide

theorem test_statusClear_answers_the_set :
    reply .chs
        (after (.statusClearFlags .chs 1 [])
          (running.raise { Sticky.clear with coalesced := true })) = [0x00, 0x08] := by decide

theorem test_statusClear_counters :
    reply .chs
        (after (.statusClearFlagsAndCounters .chs 1 [])
          (running.onPort .chs fun p => { p with crcErrors := 258 })) =
      [0, 0, 0, 0, 0, 0, 1, 2, 0, 0] := by decide

theorem test_shadeRead_run :
    (reply .chs
        (after (.shadeRead .chs 1 [12, 9])
          { running with shades := { running.shades with table := table0 } })).take 5 =
      [0, 14, 0, 12, 2] := by decide

theorem test_frameRead_past_the_row :
    reply .vis (after (.frameRead .vis 1 [1, 1, 48, 4]) running) =
      [0, 0, 0, 0, 0, 0, 0, 1, 1, 48, 0] := by decide

theorem test_profileRead_end_of_row :
    reply .vis (after (.profileRead .vis 1 [3, 1, 78, 24]) running) =
      [0, 3, 1, 78, 2, 0, 0] := by decide

theorem test_recipeRead_first_layer :
    (reply .vis (after (.recipeRead .vis 1 []) running)).take 6 = [0, 0, 1, 0, 0, 128] := by decide

theorem test_noticeRead_lists_restart :
    reply .cab (after (.noticeRead .cab 1 []) running) = [0, 1, 1, 7, 1] := by decide

theorem test_noticeControl_read_and_clear :
    reply .cab
        (after (.noticeControl .cab 1 [255, 255, 255, 255, 255, 255, 255, 16, 0, 255]) running) =
      [1, 0x80, 0, 0, 0, 0, 0, 0, 0, 0, 15, 0] := by decide

theorem test_replySent_frees_a_place :
    (after (.replySent .vis) (withReplies .vis 2 running)).ports.vis.replies.length = 1 := by decide

set_option maxRecDepth 8000 in
theorem test_crcFault_counts :
    (after (.crcFault .vis 0)
      (withReceiver .vis (.checkLow 0 0x10 [] 0) running)).ports.vis.crcErrors = 1 := by decide

theorem test_freshnessExpiry_lowers_the_level :
    let s : State :=
      { withFresh .vis running with
        supervisor :=
          { running.supervisor with recVisFresh := true, level := .reduced } }
    (after (.freshnessTimerExpiry .vis) s).supervisor.level = .basic := by decide

theorem test_frameStart_composes : (after .frameStart running).engine.flight.isSome = true := by
  decide

theorem test_frameStart_skipped :
    (after .frameStart composing).engine.repeatCount = 1 := by decide

theorem test_compositionComplete_moves_S :
    let s := after .compositionComplete composing
    s.engine.swivel = 2 ∧ s.engine.frameCount = 1 ∧ s.output.lamps.left.shadow = .complete := by
  decide

theorem test_terminalCount_swaps :
    (after .terminalCount (after .compositionComplete composing)).output.lamps.left.active = .b := by
  decide

theorem test_flashTimerExpiry :
    (after .flashTimerExpiry
      { running with output := { running.output with flash := .showing 30 } }).output.flash =
      .expired := by decide

theorem test_windowClose_without_reference :
    (after .windowClose standby).supervisor.clock.state = .limp := by decide

theorem test_refclkEdge_counts : (after .refclkEdge standby).supervisor.clock.refCount = 1 := by
  decide

theorem test_tellPhaseExpiry_toggles :
    (after .tellPhaseExpiry running).supervisor.tell.phaseOn = false := by decide

theorem test_lowReqEdge_lights_the_limp_pattern :
    (after (.lowReqEdge .rising) standby).driveCompare .left .lower 20 = 640 := by decide

theorem test_hardReset_is_reset : after .hardReset State.reset = State.reset := by decide

theorem test_power_up :
    after .endOfBoot (after .resetnRise State.reset) =
      { standby with ports := standby.ports.map PortState.settle } := by decide

theorem test_characterReceived_sync :
    (after (.characterReceived .cab 0xC3) running).ports.cab.receiver = .headerTag := by decide

/-! ## Levels of a line (R143) -/

/-- SYNC, 0xC3: the start bit, then 1 1 0 0 0 0 1 1 and the stop bit. -/
theorem test_levels_of_sync :
    characterLevels 0xC3 =
      [false, true, true, false, false, false, false, true, true, true] := by decide

/-- A break gives one character of 0x00 and then none until the line has gone high. -/
theorem test_break_gives_one_character :
    lineCharacters .idle (List.replicate 40 false) = [0x00] ∧
      lineCharacters .idle (List.replicate 40 false ++ true :: characterLevels 0x01) =
        [0x00, 0x01] := by decide

/-- After BOOT a character is found once the line has been high for ten bit times, not nine (R146). -/
theorem test_quiet_line_after_boot :
    (withSettling .vis standby).lineCommands .vis (List.replicate 10 true ++ characterLevels 0xC3) =
        [.characterReceived .vis 0xC3] ∧
      (withSettling .vis standby).lineCommands .vis (List.replicate 9 true ++ characterLevels 0xC3) =
        [] := by decide

/-! ## The hypotheses of the statements can be met

For each statement with hypotheses, a state and operands that meet them, clause by clause. -/

/-- A command at the front of the queue of `running`. -/
def queued (i : Instr) (s : State) : State := { s with pending := [i] }

theorem witness_StepTakesTheFrontCommand :
    (queued .refclkEdge running).pending = .refclkEdge :: [] ∧ running.pending = [] := by decide

theorem witness_EventsThatCannotComeChangeNothing :
    State.reset.engine.timer = none ∧ State.reset.engine.flight = none ∧ State.reset.resetn = false ∧
      (∀ d, State.reset.output.flash ≠ .showing d) ∧
      State.reset.supervisor.tell.shown.blinks = false ∧ standby.resetn = true ∧
      standby.device ≠ .boot ∧ State.reset.ports.vis.gapTimer = false ∧
      State.reset.ports.vis.fresh = false ∧ State.reset.ports.vis.replies = [] ∧
      State.reset.device = .boot ∧ (60 : Byte).toNat ≤ 60 ∧
      (∀ tag kind, standby.ports.vis.receiver ≠ .headerLen tag kind) ∧
      (∀ tag kind taken high, standby.ports.vis.receiver ≠ .checkLow tag kind taken high) := by
  refine ⟨rfl, rfl, rfl, nofun, rfl, rfl, by decide, rfl, rfl, rfl, rfl, by decide, nofun, nofun⟩

/-- BOOT with RESETN high. -/
def booting : State := { State.reset with resetn := true }

theorem booting_level : LevelInv booting where
  device := rfl
  vis := .inl rfl
  source := rfl
  agreement := rfl
  safe := by decide
  basic := by decide
  normal := by decide
  requested := rfl
  shown := .inl rfl
  firstOn := by decide
  timer := rfl

theorem witness_PowerUpReachesStandby :
    State.reset.resetn = false ∧ LevelInv booting ∧ booting.device = .boot ∧
      booting.resetn = true :=
  ⟨rfl, booting_level, rfl, rfl⟩

theorem ready_quiet (q : List Instr) : QuietInv { ready with pending := q } :=
  ⟨(nomatch ·), fun _ =>
    { timer := rfl
      flight := rfl
      swivel := rfl
      ramp := fun k => by cases k <;> rfl
      table := rfl
      traffic := rfl
      lamps := fun k => by cases k <;> exact ⟨rfl, rfl, rfl⟩
      flash := rfl
      request := nofun
      latch := rfl }⟩

theorem witness_StartEntersRun :
    (ready.canTake .cab ∧ ready.device = .standby ∧
        (∃ l ∈ ready.patterns.layers.toList, l.enabled = true) ∧ QuietInv ready) ∧
      (running.canTake .cab ∧ running.device = .run) ∧
      (standby.canTake .cab ∧ ∀ l ∈ standby.patterns.layers.toList, l.enabled = false) ∧
      ∀ code ∈ ([0, 4, 255] : List Byte), code ≠ 1 ∧ code ≠ 2 ∧ code ≠ 3 :=
  ⟨⟨by decide, rfl, by decide, ready_quiet []⟩, ⟨by decide, rfl⟩, ⟨by decide, by decide⟩,
    by decide⟩

theorem witness_StopClearsTheBeam :
    (composing.canTake .cab ∧ composing.device = .run) ∧
      (standby.canTake .cab ∧ standby.device = .standby) := by decide

theorem witness_RestartClearsTheSteeringToo : editing.canTake .cab ∧ standby.canTake .cab := by
  decide

theorem witness_ConfigWriteSetsParameters :
    running.canTake .cab ∧
      ∀ payload ∈ [List.replicate 3 (0x01 : Byte), List.replicate 30 (0x0C : Byte)],
        payload.length % 3 = 0 ∧ 3 ≤ payload.length ∧ payload.length ≤ 30 := by decide

theorem witness_ConfigReadGivesTheParameters :
    running.canTake .vis ∧
      ∀ ids ∈ [[(0x0A : Byte)], List.replicate 10 (0x01 : Byte)], 1 ≤ ids.length ∧ ids.length ≤ 10 := by
  decide

theorem witness_FrameReceivedByCharacters :
    (withSettling .cab running).ports.cab.settling = true ∧
      ¬List.replicate 10 true <:+: List.replicate 9 true ++ characterLevels 0x55 ∧
      running.device ≠ .boot ∧ running.ports.cab.receiver = .hunt ∧
      running.ports.cab.settling = false ∧
      ∀ payload ∈ [[], List.replicate 60 (0xC3 : Byte)],
        requestFrame (.profileData .cab 1 payload) = some (.cab, ⟨1, 0x09, payload⟩) ∧
          (Instr.profileData .cab 1 payload).wellFormed = true := by decide

theorem witness_FrameCheckLeavesZero :
    (withReplies .vis 2 running).ports.vis.replies = ⟨0, 0x90, []⟩ :: [⟨0, 0x90, []⟩] := by decide

set_option maxRecDepth 8000 in
theorem witness_CharacterMovesTheReceiver :
    (withSettling .vis running).device ≠ .boot ∧
      (withSettling .vis running).ports.vis.settling = true ∧
      running.device ≠ .boot ∧ running.ports.vis.receiver = .hunt ∧
      running.ports.vis.settling = false ∧
      (∀ r ∈
          ([ .headerTag, .headerKind 1, .headerLen 1 0x10, .payload 1 0x10 [] 1
           , .payload 1 0x10 [] 2, .checkHigh 1 0x10 [], .checkLow 1 0x10 [] 0xC1 ] : List Receiver),
        (withReceiver .vis r running).ports.vis.receiver = r ∧
          (withReceiver .vis r running).ports.vis.settling = false) ∧
      (60 < (61 : Byte).toNat ∧ (0 : Byte).toNat = 0 ∧ 1 ≤ (60 : Byte).toNat ∧
        (60 : Byte).toNat ≤ 60) ∧
      requestFrame (.statusRead .vis 1 []) = some (.vis, ⟨1, 0x10, []⟩) ∧
      crcOf (1 :: 0x10 :: BitVec.ofNat 8 0 :: [] ++ [0xF8, 0xDF]) = 0 ∧
      crcOf (1 :: 0x10 :: BitVec.ofNat 8 0 :: [] ++ [0xF8, 0x00]) ≠ 0 := by decide

set_option maxRecDepth 8000 in
theorem witness_LinkEventsCountAndSend :
    running.device ≠ .boot ∧
      (withReceiver .vis (.headerLen 1 0x10) running).ports.vis.receiver = .headerLen 1 0x10 ∧
      60 < (61 : Byte).toNat ∧
      (withReceiver .vis (.checkLow 1 0x10 [] 0) running).ports.vis.receiver =
        .checkLow 1 0x10 [] 0 ∧
      crcOf (1 :: 0x10 :: BitVec.ofNat 8 0 :: [] ++ [0, 0]) ≠ 0 ∧
      (withReceiver .vis .headerTag running).ports.vis.gapTimer = true ∧
      State.reset.device = .boot ∧ running.ports.vis.replies = [] ∧
      (withReplies .vis 1 running).device ≠ .boot ∧
      (withReplies .vis 1 running).ports.vis.replies = ⟨0, 0x90, []⟩ :: [] ∧
      (withReplies .vis 1 running).txdPin .vis 0 = false ∧
      (withReplies .vis 1 running).txdPin .vis 59 = true := by decide

theorem witness_LostFramesHaveNoEffect :
    requestFrame (.statusRead .vis 1 []) = some (.vis, ⟨1, 0x10, []⟩) ∧ State.reset.device = .boot ∧
      running.device ≠ .boot ∧
      2 ≤ (withReplies .vis 2 running).ports.vis.replies.length +
        (if (withReplies .vis 2 running).ports.vis.slot = none then 0 else 1) := by decide

theorem witness_DispatchChecksInOrder :
    (running.canTake .cab ∧
        requestFrame (.unknownKind .cab 1 0x19 []) = some (.cab, ⟨1, 0x19, []⟩) ∧
        RequestKind.ofCode 0x19 = none ∧ (Instr.unknownKind .cab 1 0x19 []).wellFormed = true) ∧
      (requestFrame (.shadeList .cab 1 []) = some (.cab, ⟨1, 0x01, []⟩) ∧
        RequestKind.ofCode 0x01 = some .shadeList ∧
        RequestKind.shadeList.permitted .cab = false) ∧
      (requestFrame (.mode .cab 1 [1, 2, 3, 4]) = some (.cab, ⟨1, 0x03, [1, 2, 3, 4]⟩) ∧
        RequestKind.ofCode 0x03 = some .mode ∧ RequestKind.mode.permitted .cab = true ∧
        RequestKind.mode.lenAllowed 4 = false) := by decide

theorem witness_StepsKeepThePortsSound :
    LinkInv (queued (.replySent .vis) (withReplies .vis 2 running)) ∧
      ∃ t, step (queued (.replySent .vis) (withReplies .vis 2 running)) = .next t :=
  ⟨fun p => by
    cases p <;>
      exact
        { slot_free := rfl
          queue := by decide
          accounted := by decide
          gap := by decide
          timer := rfl }, _, rfl⟩

theorem witness_FreshnessExpiryTellsTheDependents :
    (withFresh .vis running).ports.vis.fresh = true ∧
      (withFresh .chs running).ports.chs.fresh = true ∧ editing.ports.cab.fresh = true ∧
      (queued .frameStart (withFresh .vis running)).compositionNext = true ∧
      (withFresh .vis running).visChange (.freshnessTimerExpiry .vis) = some false ∧
      running.visChange (.shadeList .vis 1 []) = some true ∧
      running.visChange .frameStart = none ∧ Instr.frameStart ≠ .hardReset ∧
      ∃ t, exec .frameStart running = .next t :=
  ⟨by decide, by decide, by decide, by decide, by decide, by decide, by decide, nofun, _, rfl⟩

theorem witness_ShadeListIsMergedInRun :
    running.canTake .vis ∧ running.device = .run ∧ running.ports.vis.fresh = false ∧
      standby.canTake .vis ∧ standby.device = .standby ∧
      (withFresh .vis standby).ports.vis.fresh = true ∧
      ∀ payload ∈ [[], List.replicate 60 (0x18 : Byte)],
        payload.length % 5 = 0 ∧ payload.length ≤ 60 := by decide

/-- A full table of 16 entries, FADING where `st` says so. -/
def fullTable (st : ShadeState) : List ShadeEntry :=
  (List.range 16).map fun i => entry (i + 1) (5 * i) (5 * i + 4) .oncoming st 4 0 0

/-- The first entry of `table0` matched, the rest not. -/
def work0 : List WorkEntry := table0.mapIdx fun i e => ⟨e, i == 0⟩

/-- An object under an id, valid by every check. -/
def object (id : Nat) : ShadeObject := ⟨id, -5, 6, .upper, .both, .oncoming, 9⟩

theorem witness_AnObjectIsPlacedByTheRules :
    ((fullTable .fading).tail.length < 16 ∧
      (16 ≤ (fullTable .fading).length ∧ ∃ e ∈ fullTable .fading, e.state = .fading) ∧
      (16 ≤ (fullTable .active).length ∧ ∀ e ∈ fullTable .active, e.state ≠ .fading)) ∧
    ((∀ o ∈ list1, o.classBits ≤ 3 ∧ o.lampBits ≤ 3) ∧
      (validateObjects [] list1).ignored = 2 ∧
      (validateObjects [] [⟨1, 0, 1, 0, false, 3, 3⟩, ⟨2, 0, 1, 0, false, 2, 0⟩]).objects = []) ∧
    (∀ w ∈ work0, w.entry.id ≠ (object 2).id ∧ (object 2).id ∉ w.entry.aliases) ∧
    (∃ w after,
      work0 = [] ++ w :: after ∧ w.entry.id = (object 21).id ∧ w.matched = true) ∧
    (∃ w ∈ work0, w.matched = false ∧ w.entry.state = .active ∧ w.entry.v < 255) := by
  refine ⟨by decide, by decide, by decide, ⟨_, _, rfl, by decide, by decide⟩, by decide⟩

/-- 1.8 and R6: an object that would reach past the sector has its right edge at 128. -/
theorem test_validate_clamps_the_right_edge :
    (validateObjects [] [⟨62, 118, 14, 0, false, 0, 3⟩]).objects.map ShadeObject.right = [128] ∧
      (validateObjects [] [⟨62, 118, 14, 0, false, 0, 3⟩]).clamped = true := by decide

theorem witness_EveryReportedRoadUserIsShaded :
    (⟨62, 118, 128, .upper, .both, .oncoming, 0⟩ : ShadeObject) ∈
      (validateObjects [] list1).objects := by decide

theorem witness_ListCountsSumToTheObjects :
    ∃ m, m = mergeList 4 [] table0 ∧ ∃ e ∈ table0, e.state = .active := ⟨_, rfl, by decide⟩

/-- RUN with the starting table of 1.8. -/
def shaded : State := { running with shades := { running.shades with table := table0 } }

theorem shaded_inv : ShadeInv shaded := by
  refine ⟨by decide, ⟨by decide, fun e he => ?_, by decide, by decide⟩⟩
  simp only [shaded, table0, List.mem_cons, List.not_mem_nil, or_false] at he
  rcases he with rfl | rfl | rfl | rfl | rfl | rfl | rfl | rfl | rfl | rfl | rfl | rfl | rfl | rfl <;>
    exact ⟨by decide, by decide, by decide, by decide, by decide, by decide, by decide, by decide,
      by decide⟩

theorem witness_StepsKeepTheShadeTableSound :
    ShadeInv (queued .frameStart shaded) ∧ ∃ t, step (queued .frameStart shaded) = .next t :=
  ⟨shaded_inv, _, rfl⟩

theorem witness_AnUnreportedEntryIsHeldThenFades :
    (entry 12 (-60) (-48) .oncoming .active 4 0 0).state = .active ∧
      (entry 3 (-40) (-30) .preceding .hold 1 20 20).state = .hold ∧
      1 ≤ (entry 3 (-40) (-30) .preceding .hold 1 20 20).hold ∧
      0 < (entry 3 (-40) (-30) .preceding .hold 1 20 20).hold ∧
      (entry 50 80 90 .sign .fading 0 80 254).state = .fading ∧
      (entry 50 80 90 .sign .fading 0 80 254).veff < 255 := by decide

theorem witness_ShadeReadGivesTheEntries : shaded.canTake .chs ∧ shaded.canTake .vis := by decide

theorem witness_MotionIsStored :
    running.canTake .chs ∧ running.ports.chs.fresh = false ∧
      (withFresh .chs standby).canTake .chs ∧ (withFresh .chs standby).ports.chs.fresh = true := by
  decide

/-- RUN with the safe latch set, three slips counted and a STOP one character from its end. -/
def latched : State :=
  { running with
    supervisor := { running.supervisor with safeLatch := true, level := .safe }
    steering := { running.steering with slips := 3 } }

theorem witness_OnlyTheNamedCommandsMoveTheFlag :
    ((Instr.motion .chs 1 [0, 0, 0, 0, 0]).wellFormed = true ∧
        (after (.motion .chs 1 [0, 0, 0, 0, 0]) latched).steering.town ≠ latched.steering.town) ∧
      ((after .hardReset latched).steering.slips < latched.steering.slips ∧
        latched.steering.slips ≤ 65535) ∧
      (latched.supervisor.safeLatch = true ∧
        (after (.stop .cab 1 []) latched).supervisor.safeLatch = false ∧
        (after (.restart .cab 1 []) latched).supervisor.safeLatch = false) := by decide

theorem witness_EncoderEventsMoveTheCount :
    State.reset.resetn = false ∧ standby.resetn = true := by decide

theorem witness_StepsKeepTheDecoderWithinItsLimit :
    DecoderInv
        (queued .indexEvent
          { running with
            steering := { running.steering with decoder := .referenced, count := 52768 } }) ∧
      ∃ t,
        step
            (queued .indexEvent
              { running with
                steering := { running.steering with decoder := .referenced, count := 52768 } }) =
          .next t :=
  ⟨⟨by decide, by decide⟩, _, rfl⟩

/-- The query of 2.9 with the CHS port FRESH, both sources usable and a count. -/
def steered (count : Nat) (run : Nat) (dis : Bool) : State :=
  withFresh .chs
    { running with
      params := { running.params with encoderEnable := 1, disagreeFrames := 3 }
      steering :=
        { running.steering with
          latch := { steer := 950, speed := 700, reverse := false, valid := true }
          count := count, decoder := .referenced, disagreeRun := run, disagree := dis } }

/-- DISAGREE in its agree run, at queries 5 to 7 of 2.9. -/
def straightened (agree : Nat) : State :=
  { steered 32778 0 true with
    steering :=
      { (steered 32778 0 true).steering with
        latch := { steer := 40, speed := 700, reverse := false, valid := true }
        agreeRun := agree } }

/-- Query 3 of 2.9 at another speed, forward or in reverse. -/
def moved (speed : Nat) (reverse : Bool) : State :=
  { steered 33153 1 false with
    steering :=
      { (steered 33153 1 false).steering with
        latch := { steer := 950, speed := speed, reverse := reverse, valid := true } } }

/-- Queries 3 and 4 of 2.9, which enters DISAGREE; 6 and 7, which leaves it; the ENCODER source of a stale CHS port; gating by speed and by reverse; and a state that compares nothing. -/
theorem witness_TheSteeringQueryFollowsItsSteps :
    ((steered 33153 1 false).steeringQuery.target = 38 ∧
      (steered 33153 1 false).steeringQuery.after.steering.source = .chassis ∧
      (steered 33153 1 false).steeringQuery.after.steering.disagreeRun = 2) ∧
    ((steered 33153 2 false).steeringQuery.after.steering.disagree = true ∧
      (steered 33153 2 false).steeringQuery.after.steering.disagreeRun = 0 ∧
      (steered 33153 2 false).steeringQuery.after.ports.cab.nodes[Notice.steer.number].pending =
        true ∧
      (steered 33153 2 false).steeringQuery.target = 0) ∧
    ((straightened 1).steeringQuery.after.steering.disagree = true ∧
      (straightened 1).steeringQuery.after.steering.agreeRun = 2 ∧
      (straightened 1).steeringQuery.after.steering.source = .none) ∧
    ((straightened 2).steeringQuery.after.steering.disagree = false ∧
      (straightened 2).steeringQuery.after.steering.agreeRun = 0 ∧
      (straightened 2).steeringQuery.after.steering.source = .chassis ∧
      (straightened 2).steeringQuery.target = 1) ∧
    (((steered 33153 0 false).onPort .chs PortState.staled).steeringQuery.after.steering.source =
        .encoder ∧
      ((steered 33153 0 false).onPort .chs PortState.staled).steeringQuery.target = 61) ∧
    ((moved 49 false).steeringQuery.target = 0 ∧ (moved 50 false).steeringQuery.target = 38 ∧
      (moved 50 true).steeringQuery.target = 0) ∧
    running.plausible = false := by decide

theorem witness_StepsKeepTheSwivelInRange :
    SwivelInv (queued .compositionComplete composing) ∧
      ∃ t, step (queued .compositionComplete composing) = .next t :=
  ⟨⟨by decide, fun x hx => by cases hx; decide⟩, _, rfl⟩

theorem witness_ProfileOpenChecksThenOpens :
    running.canTake .cab ∧ 3 < (4 : Byte).toNat ∧ 1 < (2 : Byte).toNat ∧ (3 : Byte).toNat ≤ 3 ∧
      (1 : Byte).toNat ≤ 1 ∧ running.ports.cab.fresh = false ∧
      (editing.canTake .cab ∧ editing.ports.cab.fresh = true ∧
        editing.patterns.session.isSome = true) ∧
      ((withFresh .cab running).canTake .cab ∧ (withFresh .cab running).ports.cab.fresh = true ∧
        (withFresh .cab running).patterns.session = none ∧
        (∃ l ∈ (withFresh .cab running).patterns.layers.toList,
          l.enabled = true ∧ l.slot = (0 : Byte).toNat) ∧
        ∀ l ∈ (withFresh .cab running).patterns.layers.toList,
          l.enabled = true → l.slot ≠ (3 : Byte).toNat) := by decide

theorem witness_ProfileDataWritesTheRow :
    (running.canTake .cab ∧ running.patterns.session = none) ∧
      (editing.canTake .cab ∧ editing.patterns.session = some ⟨3, .upper, 70, false⟩) ∧
      (∀ values ∈ [[(1 : Byte)], List.replicate 60 (1 : Byte)],
        1 ≤ values.length ∧ values.length ≤ 60) ∧
      (∀ x ∈ [(⟨3, .upper, 70, false⟩ : Session), ⟨3, .upper, 79, true⟩],
        x.pointer ≤ 79 ∧ (x.endMark = true → x.pointer = 79)) := by decide

theorem witness_ProfileCloseEndsTheSession :
    (editing.canTake .cab ∧ editing.patterns.session.isSome = true) ∧
      (running.canTake .cab ∧ running.patterns.session = none) := by decide

theorem witness_PatternReadsGiveTheContents :
    running.canTake .vis ∧ 3 < (4 : Byte).toNat ∧ 1 < (2 : Byte).toNat ∧ (3 : Byte).toNat ≤ 3 ∧
      (1 : Byte).toNat ≤ 1 := by decide

theorem witness_RecipeWriteWritesTheLayers :
    editing.canTake .cab ∧
      (∀ payload ∈
          [ ([8, 1, 3, 0, 96] : List Byte), [2, 1, 3, 0, 96]
          , (List.range 8).flatMap fun i => [BitVec.ofNat 8 i, 0, 0, 0, 200] ],
        payload.length % 5 = 0 ∧ 5 ≤ payload.length ∧ payload.length ≤ 40) ∧
      ((∃ r ∈ readLayers [8, 1, 3, 0, 96], 7 < r.index ∨ 3 < r.slot ∨ r.opBits = 3) ∧
        ¬((readLayers [2, 0, 0, 0, 0, 2, 0, 0, 0, 0]).map RawLayer.index).Nodup) ∧
      (¬(∃ r ∈ readLayers [2, 1, 3, 0, 96], 7 < r.index ∨ 3 < r.slot ∨ r.opBits = 3) ∧
        editing.patterns.session = some ⟨3, .upper, 70, false⟩ ∧
        (∃ r ∈ readLayers [2, 1, 3, 0, 96], r.enabled = true ∧ r.slot = 3) ∧
        ¬∃ r ∈ readLayers [2, 0, 3, 0, 96], r.enabled = true ∧ r.slot = 3) := by decide

theorem witness_StepsKeepTheEditInterlock :
    SessionInv (queued (.profileData .cab 1 [1]) editing) ∧
      ∃ t, step (queued (.profileData .cab 1 [1]) editing) = .next t :=
  ⟨fun x hx => by cases hx; decide, _, rfl⟩

/-- No change of the VIS port due; one that the Supervisor has not taken; one that the next command brings. -/
theorem witness_FrameStartBeginsAComposition :
    (running.engine.timer.isSome = true ∧ running.engine.flight = none ∧
      running.visReportDue = none) ∧
    ((withFresh .vis shaded).engine.timer.isSome = true ∧
      (withFresh .vis shaded).engine.flight = none ∧
      (withFresh .vis shaded).visReportDue = some true) ∧
    ((queued (.shadeList .vis 1 []) running).engine.timer.isSome = true ∧
      (queued (.shadeList .vis 1 []) running).engine.flight = none ∧
      (queued (.shadeList .vis 1 []) running).visReportDue = some true) := by decide

theorem witness_FrameStartInFlightIsSkipped :
    composing.engine.timer.isSome = true ∧ composing.engine.flight.isSome = true ∧
      min 255 (composing.engine.consecRepeats + 1) < composing.params.overrunLimit ∧
      { composing.params with overrunLimit := 1 }.overrunLimit ≤
        min 255 (composing.engine.consecRepeats + 1) := by decide

/-- A completion that a RESTART comes with. -/
theorem test_restart_comes_with_the_completion :
    (queued (.restart .cab 1 []) composing).restartNext = true ∧
      (queued (.stop .cab 1 []) composing).restartNext = false := by decide

theorem witness_CompletionCommitsTheFrame :
    ∃ x,
      composing.engine.flight = some x ∧
        (∀ k, (x.lamps.get k).composed = true ∧ (x.lamps.get k).discarded = false) ∧
        (∃ y,
          (after (.lampControl .cab 1 [1, 0, 0]) composing).engine.flight = some y ∧
            (y.lamps.get .left).composed = true ∧ (y.lamps.get .left).discarded = true) ∧
        ∃ y,
          { composing.engine with
              flight :=
                some { x with lamps := { x.lamps with left := ⟨false, false, false, false⟩ } } }.flight =
            some y ∧ (y.lamps.get .left).composed = false :=
  ⟨_, rfl, fun k => by cases k <;> exact ⟨rfl, rfl⟩, ⟨_, rfl, rfl, rfl⟩, _, rfl, rfl⟩

/-- A composition on slot 0 filled with 9. -/
def nines : Latched :=
  { snapshot := [entry 1 0 4 .sign .active 4 9 9], flags := ⟨false, false, false⟩, target := 5
    clip := false, mode := .auto, trim := 63, layers := running.patterns.layers
    profiles := (Vector.replicate 4 none).set 0 (some ⟨.replicate 80 9, .replicate 80 9⟩)
    level := .basic, riseStep := 32, swivelRate := 2
    lamps := ⟨⟨true, false, false, false⟩, ⟨true, false, false, false⟩⟩ }

theorem witness_StagesScaleAndRampASegment :
    ((-64 : Int) ≤ -64 ∧ (-64 : Int) ≤ 64 ∧ 47 < 48) ∧ (78 + 1 < 80 ∧ 1 ≤ 3 ∧ 3 ≤ 3) ∧ 255 ≤ 255 ∧
      ((∀ l ∈ nines.layers.toList, l.enabled = true → l.slot ≤ 3) ∧
        (∀ n : Fin 4, (∃ l ∈ nines.layers.toList, l.enabled = true ∧ l.slot = n.val) →
          nines.profiles[n] = some ⟨.replicate 80 9, .replicate 80 9⟩) ∧
        (nines.base .upper 64).value = 9) ∧
      (∀ x ∈ ([(24, 4, 9), (23, 0, 255), (25, 0, 255)] : List (Nat × Nat × Nat)),
        ((x.2.1 : Nat) : Int) =
            max 0
              (min (entry 1 0 4 .sign .active 4 9 9).right (((x.1 : Int) - 24) * 4 + 4) -
                max (entry 1 0 4 .sign .active 4 9 9).left (((x.1 : Int) - 24) * 4)) ∧
          residual nines.snapshot .left .upper x.1 = x.2.2) ∧
      nines.targetOutput 0 .left .upper 0 ≤ 0 ∧ nines.targetOutput 0 .left .lower 0 = 36 ∧
      0 + nines.riseStep < nines.targetOutput 0 .left .lower 0 :=
  ⟨by decide, by decide, le_rfl, by decide, by decide, by decide, by decide, by decide⟩

/-- The object reported in the witness of the dark next frame: columns 24 to 26 of both lamps. -/
def darkObject : List Byte := [5, 0, 12, 0, 0x18]

theorem witness_AReportedRoadUserIsDarkInTheNextFrame :
    running.canTake .vis ∧ running.device = .run ∧ running.resetn = true ∧
      running.engine.timer.isSome = true ∧ running.engine.flight = none ∧
      { running.beam with mode := .auto }.mode = .auto ∧ darkObject.length % 5 = 0 ∧
      darkObject.length ≤ 60 ∧
      (⟨5, 0, 12, .upper, .both, .oncoming, 0⟩ : ShadeObject) ∈
        (validateObjects [] (readObjects darkObject)).objects ∧
      ShadeRows.upper.includes .upper = true ∧ ShadeLamps.both.includes .left = true ∧
      (running.output.lamps.get .left).enabled = true ∧ 26 < 48 ∧ (0 : Int) ≤ columnLeft 24 ∧
      columnLeft 26 + 4 ≤ 12 := by decide

theorem zero_atMost (n m : Nat) : (TwoRows.zero n).atMost m := by
  intro r v hv
  cases r <;> simp_all [TwoRows.row, TwoRows.zero]

theorem composing_bright : BrightInv (queued .compositionComplete composing) where
  store := by
    intro x hx
    have : x = TwoRows.zero 80 := by
      simpa [queued, composing, running, ready, standby, State.reset, PatternMemory.reset] using hx
    exact this ▸ zero_atMost 80 255
  layers := by decide
  trim := by decide
  flashLevel := by decide
  cycleFlash := by decide
  ramp := fun k => by cases k <;> exact zero_atMost 48 1023
  bankA := fun k => by cases k <;> exact zero_atMost 48 1023
  bankB := fun k => by cases k <;> exact zero_atMost 48 1023
  flightTrim := fun x hx => by cases hx; decide
  flightLayers := fun x hx => by cases hx; decide
  flightProfiles := fun x hx y hy z hz => by
    cases hx
    subst hz
    simp at hy

theorem witness_StepsKeepTheBrightnessInRange :
    BrightInv (queued .compositionComplete composing) ∧
      ∃ t, step (queued .compositionComplete composing) = .next t :=
  ⟨composing_bright, _, rfl⟩

theorem witness_FrameReadGivesTheLastFrame :
    running.canTake .chs ∧ ((0 : Byte) ≠ 1 ∧ (0 : Byte) ≠ 2) ∧ ((3 : Byte) ≠ 1 ∧ (3 : Byte) ≠ 2) ∧
      1 < (2 : Byte).toNat ∧ (1 : Byte).toNat ≤ 1 := by decide

/-- `latched` with a fallback of the left lamp and a level of LOW_REQ. -/
def fallen (fb : Fallback) (low : Bool) : State :=
  { latched with
    output :=
      { latched.output with
        lowReq := low
        lamps :=
          { latched.output.lamps with
            left := { latched.output.lamps.left with fallback := fb } } } }

theorem witness_NoUpperRowIsLitOutsideNormalRunning :
    (standby.upperForbidden ∧ standby.device ≠ .run ∧ latched.upperForbidden ∧
      (standby.output.lamps.get .left).enabled = true) ∧
      ((after (.lampControl .cab 1 [1, 0, 0]) running).output.lamps.get .left).enabled = false ∧
      (∀ fb ∈ ([.retain, .dark, .limp] : List Fallback), ∀ low,
        (fallen fb low).device = .run ∧ (fallen fb low).supervisor.level = .safe ∧
          ((fallen fb low).output.lamps.get .left).enabled = true ∧
          ((fallen fb low).output.lamps.get .left).fallback = fb) ∧
      (running.device = .run ∧ running.supervisor.level ≠ .safe ∧
        (running.output.lamps.get .left).enabled = true ∧ running.output.flash = .idle ∧
        { running.output with flash := OneShot.showing 9 }.flash ≠ .idle) :=
  ⟨⟨.inl (by decide), by decide, .inr (by decide), by decide⟩, by decide, by decide, by decide⟩

/-- R112 and R110: the LIMP pattern's lit part and the two levels of LOW_REQ at fallback DARK. -/
theorem test_limp_pattern :
    ([15, 16, 39, 40].map fun p => (fallen .limp false).driveCompare .left .lower p) =
        [320, 640, 640, 320] ∧
      (fallen .limp false).driveCompare .left .upper 20 = 0 ∧
      (fallen .dark true).driveCompare .left .lower 16 = 640 ∧
      (fallen .dark false).driveCompare .left .lower 16 = 0 := by decide

theorem witness_TheDutyIsTwiceTheCompareValue : 1022 ≤ 1022 ∧ 1023 ≤ 1023 ∧ 0 ≤ 1022 := by decide

theorem witness_TerminalCountSwapsAndTakesTheFlash :
    running.resetn = true ∧
      { running.output with flash := OneShot.showing 200 }.flash = .showing 200 := by decide

theorem witness_LampControlWritesTheSettings :
    composing.canTake .cab ∧ 3 < (4 : Byte).toNat ∧ 2 < (3 : Byte).toNat ∧ 1 ≤ (1 : Byte).toNat ∧
      (3 : Byte).toNat ≤ 3 ∧ (2 : Byte).toNat ≤ 2 := by decide

theorem witness_ModeSetsTheBeam :
    standby.canTake .cab ∧ standby.ports.cab.fresh = false ∧ editing.canTake .cab ∧
      editing.ports.cab.fresh = true := by decide

theorem witness_TheClockMonitorMovesByItsWindows :
    standby.resetn = true ∧ (after .windowClose standby).resetn = true := by decide

theorem witness_TheTellTaleBlinksAtLeastOnce :
    TellPattern.slow.blinks = true ∧ TellPattern.slow ≠ standby.supervisor.tell.requested ∧
      ¬(standby.supervisor.tell.requested = .off ∧ standby.supervisor.tell.shown = .slow) ∧
      running.supervisor.tell.shown.blinks = true ∧
      running.supervisor.tell.requested = running.supervisor.tell.shown ∧
      running.supervisor.tell.replaced = false ∧
      (running.supervisor.tell.request false .off).shown.blinks = true ∧
      (running.supervisor.tell.request false .off).requested = .off ∧
      (running.supervisor.tell.request true .slow).shown.blinks = true ∧
      (running.supervisor.tell.request true .slow).replaced = true ∧
      (running.supervisor.tell.request true .slow).requested =
        (running.supervisor.tell.request true .slow).shown ∧
      (running.supervisor.tell.request true .steady).shown.blinks = false ∧
      (running.supervisor.tell.request true .steady).replaced = true := by decide

/-- R131: a change from SLOW to FAST, the fall of the level from REDUCED to BASIC, right before an expiry, which may be that of SLOW. -/
theorem test_a_replaced_blink_is_noted :
    let s : State :=
      { withFresh .vis running with
        supervisor :=
          { running.supervisor with
            recVisFresh := true
            level := .reduced
            tell :=
              { requested := .slow, shown := .slow, phaseOn := false, firstOn := false
                timer := some 500, replaced := false } } }
    (after (.freshnessTimerExpiry .vis) (queued .tellPhaseExpiry s)).supervisor.tell =
        { requested := .fast, shown := .fast, phaseOn := true, firstOn := true
          timer := some 250, replaced := true } ∧
      (after (.freshnessTimerExpiry .vis) s).supervisor.tell.replaced = false := by decide

theorem running_level : LevelInv (queued (.shadeList .vis 1 []) running) where
  device := rfl
  vis := .inl rfl
  source := rfl
  agreement := rfl
  safe := by decide
  basic := by decide
  normal := by decide
  requested := rfl
  shown := .inl rfl
  firstOn := by decide
  timer := rfl

theorem witness_StepsKeepTheLevelTrue :
    LevelInv (queued (.shadeList .vis 1 []) running) ∧
      ∃ t, step (queued (.shadeList .vis 1 []) running) = .next t :=
  ⟨running_level, _, rfl⟩

theorem witness_NoticeReadListsThePendingNodes :
    standby.canTake .vis ∧ standby.ports.vis.nodes[7].pending = true := by decide

theorem witness_NoticeControlWritesTheNodes :
    standby.canTake .vis ∧ (List.replicate 10 (16 : Byte)).length = 10 ∧
      ∃ c ∈ (List.replicate 10 (16 : Byte)).take 8, 16 ≤ c.toNat ∧ c.toNat ≤ 254 := by decide

/-- R135: the notice lines are active low, and low after a hard reset, which sets RESTART at priority 1. -/
theorem test_notice_lines_are_low_at_reset :
    State.reset.noticePin .vis = false ∧ State.reset.noticePin .chs = false ∧
      State.reset.noticePin .cab = false ∧
      (after (.noticeControl .cab 1 (List.replicate 9 255 ++ [0x80])) standby).noticePin .cab =
        false ∧
      (after (.noticeControl .cab 1 (List.replicate 8 255 ++ [0, 0x80])) standby).noticePin .cab =
        true := by decide

/-- No command waiting; one waiting that may fall among the reads. -/
theorem witness_StatusReadGivesEveryItem :
    editing.canTake .vis ∧ standby.canTake .cab ∧ (queued .compositionComplete composing).canTake .vis ∧
      Instr.compositionComplete ≠ .hardReset ∧ requestFrame .compositionComplete = none ∧
      (after .compositionComplete composing).engine.frameCount = 1 := by decide

theorem witness_StatusClearClearsTheRequestingPort :
    standby.canTake .chs ∧ (0 : Byte) ≠ 1 ∧ (0 : Byte) ≠ 2 ∧ (3 : Byte) ≠ 1 ∧ (3 : Byte) ≠ 2 := by
  decide

theorem witness_StepsKeepStandbyQuiet :
    QuietInv (queued (.start .cab 1 []) ready) ∧
      ∃ t, step (queued (.start .cab 1 []) ready) = .next t :=
  ⟨ready_quiet _, _, rfl⟩

theorem witness_TheCabAloneSetsPatternAndConfiguration :
    requestFrame (.profileData .vis 1 [9]) = some (.vis, ⟨1, 0x09, [9]⟩) ∧ Port.vis ≠ .cab ∧
      ∃ t, exec (.profileData .vis 1 [9]) editing = .next t :=
  ⟨rfl, by decide, _, rfl⟩

theorem witness_ARefusedRequestChangesNothing :
    requestFrame (.profileClose .cab 1 []) = some (.cab, ⟨1, 0x0A, []⟩) ∧ running.canTake .cab ∧
      (0x0A : Byte) ≠ 0x01 ∧
      ((after (.profileClose .cab 1 []) running).ports.get .cab).replies =
        (running.ports.get .cab).replies ++ [⟨1, 0x8A, [0x14]⟩] ∧
      ([0x14] : List Byte).head? = some 0x14 ∧ 0x10 ≤ (0x14 : Byte).toNat := by decide

end Sys2Proof.Tests
end

section
/-! PROOF. SHADE_READ (R23, R165): a request that its owner answers without a change of state, the fields of an entry, and the reply. -/

namespace Sys2Proof.Machine

/-! ## A request answered without a change of state (R151, R152) -/

/-- A request row of kind `k` that passes the dispatch checks, and whose owner changes no state, leaves the owner's answer on its port and nothing else. -/
theorem exec_of_serve_same {i : Instr} {p : Port} {f : Frame} {k : RequestKind} {r : List Byte}
    {s : State} (hi : requestFrame i = some (p, f)) (hk : f.kind = k.code) (hs : s.canTake p)
    (hp : k.permitted p = true) (hl : k.lenAllowed f.payload.length = true)
    (hr :
      (s.onPort p fun x => { x.frameIn with slot := some f }).serve (s.ownersRead p) k p f.payload =
        (s.onPort p fun x => { x.frameIn with slot := some f }, r)) :
    exec i s = .next (s.answered p f.tag k r) := by
  have hcode : RequestKind.ofCode f.kind = some k := hk ▸ RequestKind.ofCode_code k
  have hdispatch := (State.dispatch_of_served (s.ownersRead p) _ hcode hp hl).trans hr
  rw [exec_of_requestFrame s hi, State.takeFrame_of_dispatch_same hs hdispatch, hk, State.answered]

/-! ## The fields of an entry (R157, R165) -/

/-- A signed field of two characters is the word of 16 bits in two's complement. -/
theorem encodeInt16_eq_wordBytes (i : Int) : encodeInt16 i = wordBytes (BitVec.ofInt 16 i) := by
  have hword : BitVec.ofNat 16 (i % 65536).toNat = BitVec.ofInt 16 i := by
    apply BitVec.eq_of_toNat_eq
    rw [BitVec.toNat_ofNat, BitVec.toNat_ofInt]
    omega
  rw [encodeInt16, encode16_eq_wordBytes, hword]

/-- A flag as a character is 1 where it is set and 0 where it is clear. -/
theorem encode8_flagBit (b : Bool) : encode8 (flagBit b) = if b = true then 0x01 else 0x00 := by
  cases b <;> rfl

/-- The characters of an entry, with its right edge as a word of 16 bits. -/
theorem encodeEntry_eq (e : ShadeEntry) :
    encodeEntry e =
      [BitVec.ofNat 8 e.id, BitVec.ofInt 8 e.left] ++
        wordBytes (BitVec.ofInt 16 e.right) ++
        [ BitVec.ofNat 8
            (shadeRowsCode e.rows + 2 * classCode e.cls + 8 * lampsCode e.lamps +
              32 * shadeStateCode e.state)
        , BitVec.ofNat 8 e.v, BitVec.ofNat 8 e.veff, BitVec.ofNat 8 e.hold
        , BitVec.ofNat 8 e.aliases.length
        , BitVec.ofNat 8 (e.aliases.getD 0 0)
        , BitVec.ofNat 8 (e.aliases.getD 1 0)
        , BitVec.ofNat 8 (e.aliases.getD 2 0) ] := by
  rw [encodeEntry, encodeInt16_eq_wordBytes]
  rfl

/-! ## The reply -/

/-- The Shade Manager's answer to SHADE_READ changes no state and gives the entries of the run (R23). -/
theorem State.serveShadeRead_pair (first count : Byte) (s : State) :
    s.serveShadeRead [first, count] =
      (s,
        [0x00, BitVec.ofNat 8 s.shades.table.length,
            if s.shades.traffic = true then 0x01 else 0x00, first,
            BitVec.ofNat 8 (shadeRun s.shades.table first.toNat count.toNat).length] ++
          (shadeRun s.shades.table first.toNat count.toNat).flatMap encodeEntry) := by
  rw [← encode8_flagBit]
  rfl

/-- Settles O26: SHADE_READ is permitted on every port and has two payload characters, so it reaches the Shade Manager, whose answer changes no state. -/
theorem shadeReadGivesTheEntries : Obligations.ShadeReadGivesTheEntries := by
  intro p tag first count s run hs hrun
  subst hrun
  rw [← funext encodeEntry_eq]
  exact
    exec_of_serve_same (k := .shadeRead) (f := ⟨tag, _, [first, count]⟩) rfl rfl hs rfl rfl
      (State.serveShadeRead_pair first count _)

end Sys2Proof.Machine
end

section
/-! PROOF. PROFILE_OPEN (R51): a request that writes Pattern Memory and marks the ports, the row that a code names, the four checks, and the session opened. -/

namespace Sys2Proof.Machine

/-! ## A request that writes Pattern Memory (R151, R152) -/

/-- The state in which the owner takes a request: its frame has left the receiver of port `p` and stands in the request slot (R150). -/
def State.taking (p : Port) (f : Frame) (s : State) : State :=
  s.onPort p fun x => { x.frameIn with slot := some f }

@[simp] theorem State.taking_patterns (p : Port) (f : Frame) (s : State) :
    (s.taking p f).patterns = s.patterns := rfl

@[simp] theorem State.taking_cab_fresh (p : Port) (f : Frame) (s : State) :
    (s.taking p f).ports.cab.fresh = s.ports.cab.fresh := by
  cases p <;> rfl

/-- The reply placed after a write of Pattern Memory and a mark is the same as on the state before the request, whose port then has answered. -/
theorem State.placeReply_marked_taking (p : Port) (f : Frame) (m : PatternMemory) (g : Sticky)
    (ns : List Notice) (r : List Byte) (s : State) :
    ({ s.taking p f with patterns := m }.marked g ns).onPort p (PortState.placeReply f r) =
      ({ s with patterns := m }.marked g ns).onPort p
        (PortState.answered { tag := f.tag, kind := f.kind + 0x80, payload := r }) := by
  have hport (x : PortState) :
      PortState.placeReply f r ({ x.frameIn with slot := some f }.marked g ns) =
        (x.marked g ns).answered { tag := f.tag, kind := f.kind + 0x80, payload := r } := rfl
  simp [State.onPort, State.marked, State.taking, PerPort.map_set, hport]

/-- A request row of kind `k` that passes the dispatch checks, and whose owner writes Pattern Memory and marks the ports, does so on the state before it and leaves the owner's answer. -/
theorem exec_of_serve_patterns {i : Instr} {p : Port} {f : Frame} {k : RequestKind} {r : List Byte}
    {m : PatternMemory} {g : Sticky} {ns : List Notice} {s : State}
    (hi : requestFrame i = some (p, f)) (hk : f.kind = k.code) (hs : s.canTake p)
    (hp : k.permitted p = true) (hl : k.lenAllowed f.payload.length = true)
    (hr :
      (s.taking p f).serve (s.ownersRead p) k p f.payload =
        ({ s.taking p f with patterns := m }.marked g ns, r)) :
    exec i s = .next (({ s with patterns := m }.marked g ns).answered p f.tag k r) := by
  have hcode : RequestKind.ofCode f.kind = some k := hk ▸ RequestKind.ofCode_code k
  have hdispatch : (s.taking p f).dispatch (s.ownersRead p) p f = _ :=
    (State.dispatch_of_served (s.ownersRead p) _ hcode hp hl).trans hr
  have htake := State.takeFrame_of_canTake f hs
  rw [← State.taking, hdispatch, State.placeReply_marked_taking, hk] at htake
  rw [exec_of_requestFrame s hi, htake, State.answered]

/-! ## The row that a code names (R157) -/

theorem rowOfCode_of_le {c : Byte} (h : c.toNat ≤ 1) :
    rowOfCode c.toNat = some (if c = 0 then .lower else .upper) := by
  obtain hc | hc : c = 0 ∨ c = 1 := by bv_omega
  · subst hc; rfl
  · subst hc; rfl

theorem rowOfCode_of_gt {n : Nat} (h : 1 < n) : rowOfCode n = none := by
  obtain ⟨k, rfl⟩ := Nat.exists_eq_add_of_lt h
  simp [rowOfCode]

/-! ## The checks (R51) -/

/-- An enabled layer names the slot. -/
theorem PatternMemory.slotInUse_iff (m : PatternMemory) (slot : Nat) :
    m.slotInUse slot = true ↔ ∃ l ∈ m.layers.toList, l.enabled = true ∧ l.slot = slot := by
  simp only [PatternMemory.slotInUse, List.any_eq_true, Bool.and_eq_true, beq_iff_eq]

@[simp] theorem State.checkOpen_taking (p : Port) (f : Frame) (s : State) :
    (s.taking p f).checkOpen = s.checkOpen := by
  cases p <;> rfl

/-- A slot or a row that does not exist fails the first check. -/
theorem State.checkOpen_of_bad_value {slot rowC : Nat} (s : State) (h : 3 < slot ∨ 1 < rowC) :
    s.checkOpen slot rowC = .error .refusedValue := by
  unfold State.checkOpen
  split
  · rfl
  · rename_i r hr
    have hrow : ¬1 < rowC := fun hgt => by simp [rowOfCode_of_gt hgt] at hr
    exact if_pos (h.resolve_right hrow)

/-- With a slot and a row that exist, the other three checks decide in their order. -/
theorem State.checkOpen_of_row {slot rowC : Nat} {r : Row} (s : State)
    (hr : rowOfCode rowC = some r) (hslot : slot ≤ 3) :
    s.checkOpen slot rowC =
      if s.ports.cab.fresh = false then .error .refusedState
      else if s.patterns.session.isSome = true then .error .refusedSessionOpen
      else if s.patterns.slotInUse slot = true then .error .refusedInUse
      else .ok r := by
  simp only [State.checkOpen, hr, if_neg hslot.not_gt]

/-! ## The owner's answer -/

/-- A failed check is answered with its code, and no state changes. -/
theorem State.serveProfileOpen_of_error {slot row : Byte} {x : Result} {s : State} (column : Byte)
    (h : s.checkOpen slot.toNat row.toNat = .error x) :
    s.serveProfileOpen [slot, row, column] = (s, [x.code]) := by
  simp only [State.serveProfileOpen, h]

/-- Where all checks pass, the session opens with INPUT_CLAMP for a clamped column and with EDIT. -/
theorem State.serveProfileOpen_of_ok {slot row : Byte} {r : Row} {s : State} (column : Byte)
    (h : s.checkOpen slot.toNat row.toNat = .ok r) :
    s.serveProfileOpen [slot, row, column] =
      ({ s with
          patterns :=
            { s.patterns with
              session :=
                some
                  { slot := slot.toNat, row := r, pointer := min 79 column.toNat
                    endMark := false } } }.marked
        { Sticky.clear with inputClamp := decide (79 < column.toNat) } [.edit],
        [if 79 < column.toNat then 0x01 else 0x00, BitVec.ofNat 8 (min 79 column.toNat)]) := by
  simp only [State.serveProfileOpen, h, State.raise_eq_marked, State.notify_eq_marked,
    State.marked_marked, Sticky.union_clear, List.nil_append, clampFlag, decide_eq_true_eq,
    apply_ite Result.code, encode8]
  rfl

/-- A PROFILE_OPEN that fails a check leaves its refusal on the CAB port and nothing else. -/
theorem exec_profileOpen_of_error {tag slot row : Byte} {x : Result} {s : State} (column : Byte)
    (hs : s.canTake .cab) (h : s.checkOpen slot.toNat row.toNat = .error x) :
    exec (.profileOpen .cab tag [slot, row, column]) s =
      .next (s.answered .cab tag .profileOpen [x.code]) :=
  exec_of_serve_same (k := .profileOpen) (f := ⟨tag, _, [slot, row, column]⟩) rfl rfl hs rfl rfl
    (State.serveProfileOpen_of_error (s := s.taking .cab _) column (by simpa using h))

/-- Settles O33: the checks are read off in their order, and where all pass the owner writes the session alone. -/
theorem profileOpenChecksThenOpens : Obligations.ProfileOpenChecksThenOpens := by
  intro tag slot row column s hs
  refine ⟨fun hbad => exec_profileOpen_of_error column hs (s.checkOpen_of_bad_value hbad),
    fun hslot hrow => ?_⟩
  have hcheck := s.checkOpen_of_row (rowOfCode_of_le hrow) hslot
  refine ⟨fun hstale => ?_, fun hfresh hopen => ?_, fun hfresh hclosed huse => ?_,
    fun hfresh hclosed hfree => ?_⟩
  · exact exec_profileOpen_of_error column hs (hcheck.trans (if_pos hstale))
  · exact
      exec_profileOpen_of_error (x := .refusedSessionOpen) column hs
        (by simp [hcheck, hfresh, hopen])
  · have huse' := (s.patterns.slotInUse_iff slot.toNat).2 huse
    exact
      exec_profileOpen_of_error (x := .refusedInUse) column hs
        (by simp [hcheck, hfresh, hclosed, huse'])
  · have hfree' : ¬s.patterns.slotInUse slot.toNat = true := fun h => by
      obtain ⟨l, hl, hon, heq⟩ := (s.patterns.slotInUse_iff _).1 h
      exact hfree l hl hon heq
    have hok : s.checkOpen slot.toNat row.toNat = .ok (if row = 0 then .lower else .upper) := by
      simp [hcheck, hfresh, hclosed, hfree']
    exact
      exec_of_serve_patterns (k := .profileOpen) (f := ⟨tag, _, [slot, row, column]⟩) rfl rfl hs rfl
        rfl (State.serveProfileOpen_of_ok (s := s.taking .cab _) column (by simpa using hok))

end Sys2Proof.Machine
end

section
/-! PROOF. PROFILE_CLOSE and PROFILE_DATA (R52 to R54): the session closed, what the values of a PROFILE_DATA leave, and the owner's answers. -/

namespace Sys2Proof.Machine

/-! ## PROFILE_CLOSE (R54) -/

/-- An open session closes with EDIT. -/
theorem State.serveProfileClose_of_open {s : State} (h : s.patterns.session.isSome = true) :
    s.serveProfileClose =
      ({ s with patterns := { s.patterns with session := none } }.marked Sticky.clear [.edit],
        [0x00]) := by
  obtain ⟨x, hx⟩ := Option.isSome_iff_exists.1 h
  simp only [State.serveProfileClose, State.closeSession, hx, State.notify_eq_marked, Result.code]

/-- With no session open there is none to close. -/
theorem State.serveProfileClose_of_closed {s : State} (h : s.patterns.session = none) :
    s.serveProfileClose = (s, [0x14]) := by
  simp only [State.serveProfileClose, h, Result.code]

/-- Settles O35: the owner's answer is that of an open session or that of a closed one. -/
theorem profileCloseEndsTheSession : Obligations.ProfileCloseEndsTheSession := by
  intro tag s hs
  refine ⟨fun hopen => ?_, fun hclosed => ?_⟩
  · exact
      exec_of_serve_patterns (k := .profileClose) (f := ⟨tag, _, []⟩) rfl rfl hs rfl rfl
        (State.serveProfileClose_of_open (s := s.taking .cab _) hopen)
  · exact
      exec_of_serve_same (k := .profileClose) (f := ⟨tag, _, []⟩) rfl rfl hs rfl rfl
        (State.serveProfileClose_of_closed (s := s.taking .cab _) hclosed)

/-! ## The values of a PROFILE_DATA (R52, R53) -/

/-- A pointer and an end mark as a session has them: the mark is set at column 79 alone (R49). -/
def RowWrite.Sound (w : RowWrite) : Prop := w.pointer ≤ 79 ∧ (w.endMark = true → w.pointer = 79)

/-- One value written at the pointer (R52). -/
def RowWrite.put (b : Byte) (w : RowWrite) : RowWrite :=
  { row := w.row.setIfInBounds w.pointer b.toNat
    pointer := if w.pointer < 79 then w.pointer + 1 else w.pointer
    endMark := decide (79 ≤ w.pointer)
    written := w.written + 1 }

/-- How many of `n` values are written: those up to column 79, none where the end mark is set (R53). -/
def RowWrite.room (w : RowWrite) (n : Nat) : Nat :=
  if w.endMark = true then 0 else min n (80 - w.pointer)

/-- What the values leave, at once: those that have room stand from the pointer on. -/
def RowWrite.filled (values : List Byte) (w : RowWrite) : RowWrite :=
  { row :=
      Vector.ofFn fun c =>
        if w.pointer ≤ c.val ∧ c.val < w.pointer + w.room values.length then
          (values.getD (c.val - w.pointer) 0).toNat
        else w.row[c]
    pointer := min 79 (w.pointer + w.room values.length)
    endMark := w.endMark || decide (w.pointer + w.room values.length = 80)
    written := w.written + w.room values.length }

/-- A write is made until the end mark is set. -/
theorem writeValues_cons (b : Byte) (rest : List Byte) (w : RowWrite) :
    writeValues (b :: rest) w = if w.endMark = true then w else writeValues rest (w.put b) := rfl

/-- A write moves the pointer on and leaves it at column 79. -/
theorem RowWrite.put_pointer {w : RowWrite} (b : Byte) (h : w.Sound) :
    (w.put b).pointer = min 79 (w.pointer + 1) := by
  obtain ⟨hp, -⟩ := h
  simp only [RowWrite.put]
  split <;> omega

/-- A write sets the end mark where it was at column 79. -/
theorem RowWrite.put_endMark {w : RowWrite} (b : Byte) (h : w.Sound) :
    (w.put b).endMark = true ↔ w.pointer = 79 := by
  obtain ⟨hp, -⟩ := h
  simp only [RowWrite.put, decide_eq_true_eq]
  omega

theorem RowWrite.put_row {c : Nat} (b : Byte) (w : RowWrite) (hc : c < 80) :
    (w.put b).row[c] = if w.pointer = c then b.toNat else w.row[c] := by
  simp only [RowWrite.put, Vector.getElem_setIfInBounds]

theorem RowWrite.put_sound {w : RowWrite} (b : Byte) (h : w.Sound) : (w.put b).Sound := by
  rw [RowWrite.Sound, RowWrite.put_endMark b h, RowWrite.put_pointer b h]
  omega

/-- After a write there is room for one value less. -/
theorem RowWrite.room_succ {w : RowWrite} (b : Byte) (n : Nat) (h : w.Sound)
    (hend : w.endMark = false) : w.room (n + 1) = (w.put b).room n + 1 := by
  have hp : w.pointer ≤ 79 := h.1
  simp only [RowWrite.room, RowWrite.put_endMark b h, RowWrite.put_pointer b h, hend,
    Bool.false_eq_true, if_false]
  split <;> omega

/-- Where there is no room, a sound row is left as it is. -/
theorem RowWrite.filled_of_room_zero {values : List Byte} {w : RowWrite} (h : w.Sound)
    (hroom : w.room values.length = 0) : w.filled values = w := by
  obtain ⟨hp, -⟩ := h
  obtain ⟨row, pointer, endMark, written⟩ := w
  simp only at hp
  have hrow (c : Nat) : ¬(pointer ≤ c ∧ c < pointer) := by omega
  have hlast : pointer ≠ 80 := by omega
  simp [RowWrite.filled, hroom, hrow, hlast, hp]

/-- To fill with a value and others is to write the value and fill with the others. -/
theorem RowWrite.filled_put {w : RowWrite} (b : Byte) (rest : List Byte) (h : w.Sound)
    (hend : w.endMark = false) : (w.put b).filled rest = w.filled (b :: rest) := by
  have hroom := RowWrite.room_succ b rest.length h hend
  have hput := RowWrite.put_pointer b h
  have hmark := RowWrite.put_endMark b h
  have hp : w.pointer ≤ 79 := h.1
  have hlast : w.pointer = 79 → (w.put b).room rest.length = 0 := fun h79 =>
    if_pos (hmark.2 h79)
  simp only [RowWrite.filled, List.length_cons, hroom, hput, RowWrite.mk.injEq]
  refine ⟨?_, ?_, ?_, ?_⟩
  · ext c hc
    simp only [Vector.getElem_ofFn, Fin.getElem_fin, RowWrite.put_row]
    obtain rfl | hne := eq_or_ne w.pointer c
    · have hfirst : ¬(min 79 (w.pointer + 1) ≤ w.pointer ∧
          w.pointer < min 79 (w.pointer + 1) + (w.put b).room rest.length) := by omega
      rw [if_neg hfirst, if_pos rfl, if_pos (by omega), Nat.sub_self, List.getD_cons_zero]
    · by_cases hin : w.pointer ≤ c ∧ c < w.pointer + ((w.put b).room rest.length + 1)
      · have hlater : min 79 (w.pointer + 1) ≤ c ∧
            c < min 79 (w.pointer + 1) + (w.put b).room rest.length := by omega
        have hindex : c - w.pointer = c - min 79 (w.pointer + 1) + 1 := by omega
        rw [if_pos hlater, if_pos hin, hindex, List.getD_cons_succ]
      · have hout : ¬(min 79 (w.pointer + 1) ≤ c ∧
            c < min 79 (w.pointer + 1) + (w.put b).room rest.length) := by omega
        rw [if_neg hout, if_neg hin, if_neg hne]
  · omega
  · rw [Bool.eq_iff_iff]
    simp only [Bool.or_eq_true, hmark, hend, decide_eq_true_eq, Bool.false_eq_true, false_or]
    omega
  · simp only [RowWrite.put]
    omega

/-- The values are written one after the other as if at once. -/
theorem writeValues_eq_filled (values : List Byte) (w : RowWrite) (h : w.Sound) :
    writeValues values w = w.filled values := by
  induction values generalizing w with
  | nil =>
    have hroom : w.room ([] : List Byte).length = 0 := by simp [RowWrite.room]
    exact (RowWrite.filled_of_room_zero h hroom).symm
  | cons b rest ih =>
    rw [writeValues_cons]
    split
    · rename_i hend
      exact (RowWrite.filled_of_room_zero h (if_pos hend)).symm
    · rename_i hend
      rw [ih _ (w.put_sound b h), RowWrite.filled_put b rest h (by simpa using hend)]

/-! ## PROFILE_DATA -/

/-- With no session open nothing is written. -/
theorem State.serveProfileData_of_closed (values : List Byte) {s : State}
    (h : s.patterns.session = none) : s.serveProfileData values = (s, [0x14]) := by
  simp only [State.serveProfileData, h, Result.code]

/-- The row of an open session before the values of a PROFILE_DATA are written. -/
def PatternMemory.rowWrite (m : PatternMemory) (x : Session) : RowWrite :=
  { row := (m.slotRows x.slot).row x.row, pointer := x.pointer, endMark := x.endMark, written := 0 }

/-- With a session open the row is filled, and PROFILE_TRUNC marks the values left over. -/
theorem State.serveProfileData_of_open (values : List Byte) {x : Session} {w : RowWrite} {s : State}
    (h : s.patterns.session = some x) (hx : (s.patterns.rowWrite x).Sound)
    (hw : w = (s.patterns.rowWrite x).filled values) :
    s.serveProfileData values =
      ({ s with
          patterns :=
            { s.patterns.setRow x.slot x.row w.row with
              session := some { x with pointer := w.pointer, endMark := w.endMark } } }.marked
        { Sticky.clear with profileTrunc := decide (w.written < values.length) } [],
        [if w.written < values.length then 0x02 else 0x00, BitVec.ofNat 8 w.written,
          BitVec.ofNat 8 w.pointer, encode8 (flagBit w.endMark)]) := by
  rw [← writeValues_eq_filled values _ hx] at hw
  subst hw
  simp only [State.serveProfileData, h, State.raise_eq_marked, decide_eq_true_eq,
    apply_ite Result.code]
  rfl

/-- A PROFILE_DATA with a session open leaves the filled row, the pointer and the end mark of it, and the owner's answer. -/
theorem exec_profileData_of_open {values : List Byte} {x : Session} {w : RowWrite} {s : State}
    (tag : Byte) (hs : s.canTake .cab)
    (hlen : RequestKind.profileData.lenAllowed values.length = true)
    (h : s.patterns.session = some x) (hx : (s.patterns.rowWrite x).Sound)
    (hw : w = (s.patterns.rowWrite x).filled values) :
    exec (.profileData .cab tag values) s =
      .next
        (({ s with
            patterns :=
              { s.patterns.setRow x.slot x.row w.row with
                session := some { x with pointer := w.pointer, endMark := w.endMark } } }.marked
          { Sticky.clear with profileTrunc := decide (w.written < values.length) } []).answered
          .cab tag .profileData
          [if w.written < values.length then 0x02 else 0x00, BitVec.ofNat 8 w.written,
            BitVec.ofNat 8 w.pointer, encode8 (flagBit w.endMark)]) :=
  exec_of_serve_patterns (k := .profileData) (f := ⟨tag, _, values⟩) rfl rfl hs rfl hlen
    (State.serveProfileData_of_open values (s := s.taking .cab _) h hx hw)

/-- Settles O34: a session's pointer and end mark are sound, so the values fill its row from the pointer on. -/
theorem profileDataWritesTheRow : Obligations.ProfileDataWritesTheRow := by
  intro tag values s hs hmin hmax
  have hlen : RequestKind.profileData.lenAllowed values.length = true := by
    simp [RequestKind.lenAllowed, hmin, hmax]
  refine ⟨fun hclosed => ?_, fun x written hopen hp hend hwritten => ?_⟩
  · exact
      exec_of_serve_same (k := .profileData) (f := ⟨tag, _, values⟩) rfl rfl hs rfl hlen
        (State.serveProfileData_of_closed values (s := s.taking .cab _) hclosed)
  · obtain rfl : written = (s.patterns.rowWrite x).room values.length := hwritten
    refine ⟨((s.patterns.rowWrite x).filled values).row, fun c => ?_, ?_⟩
    · simp [RowWrite.filled, PatternMemory.rowWrite]
    · have hcount :
          ((s.patterns.rowWrite x).filled values).written =
            (s.patterns.rowWrite x).room values.length := Nat.zero_add _
      have hmark (c : Prop) [Decidable c] :
          encode8 (flagBit (x.endMark || decide c)) = if x.endMark = true ∨ c then 0x01 else 0x00 := by
        simp [encode8_flagBit]
      have hexec := exec_profileData_of_open tag hs hlen hopen ⟨hp, hend⟩ rfl
      simp only [hcount] at hexec
      rw [← hmark]
      exact hexec

end Sys2Proof.Machine
end

section
/-! PROOF. PROFILE_READ and RECIPE_READ (R56, R61): the run of a row, the records of the eight layers, and two answers that change no state. -/

namespace Sys2Proof.Machine

/-! ## PROFILE_READ (R56) -/

/-- A slot or a row that does not exist is refused. -/
theorem State.serveProfileRead_of_bad_value {slot row : Byte} (column count : Byte) (s : State)
    (h : 3 < slot.toNat ∨ 1 < row.toNat) :
    s.serveProfileRead [slot, row, column, count] = (s, [0x15]) := by
  simp only [State.serveProfileRead]
  split
  · rfl
  · rename_i r hr
    have hrow : ¬1 < row.toNat := fun hgt => by simp [rowOfCode_of_gt hgt] at hr
    exact if_pos (h.resolve_right hrow)

/-- A row that exists is read without a change of state. -/
theorem State.serveProfileRead_of_row {slot row : Byte} {r : Row} (column count : Byte) (s : State)
    (hr : rowOfCode row.toNat = some r) (hslot : slot.toNat ≤ 3) :
    s.serveProfileRead [slot, row, column, count] =
      (s,
        [0x00, slot, row, column,
            BitVec.ofNat 8
              (readRun ((s.patterns.slotRows slot.toNat).row r) column.toNat count.toNat 24).length] ++
          (readRun ((s.patterns.slotRows slot.toNat).row r) column.toNat count.toNat 24).map
            (BitVec.ofNat 8)) := by
  simp only [State.serveProfileRead, hr, if_neg hslot.not_gt]
  rfl

/-! ## RECIPE_READ (R61) -/

/-- The entries of a vector with their places, in the order of the places. -/
theorem zipIdx_toList_eq_map_finRange {α : Type} {n : Nat} (v : Vector α n) :
    v.toList.zipIdx = (List.finRange n).map fun i => (v[i], i.val) := by
  apply List.ext_getElem <;> simp

/-- The record of a layer, its condition character with each flag at its bit (R162). -/
theorem encodeLayer_eq (i : Nat) (l : Layer) :
    encodeLayer i l =
      [ BitVec.ofNat 8 i
      , BitVec.ofNat 8 (flagBit l.enabled + 2 * opCode l.op)
      , BitVec.ofNat 8 l.slot
      , BitVec.ofNat 8
          (flagBit l.mask.traffic + 2 * flagBit l.mask.weather + 4 * flagBit l.mask.town +
            16 * flagBit l.value.traffic + 32 * flagBit l.value.weather + 64 * flagBit l.value.town)
      , BitVec.ofNat 8 l.weight ] := by
  have hcondition :
      roadFlagsCode l.mask + 16 * roadFlagsCode l.value =
        flagBit l.mask.traffic + 2 * flagBit l.mask.weather + 4 * flagBit l.mask.town +
          16 * flagBit l.value.traffic + 32 * flagBit l.value.weather +
          64 * flagBit l.value.town := by
    simp only [roadFlagsCode]
    ring
  rw [encodeLayer, hcondition]
  rfl

/-- The recipe is read layer by layer without a change of state. -/
theorem State.serveRecipeRead_eq (s : State) :
    s.serveRecipeRead =
      (s, 0x00 ::
        (List.finRange 8).flatMap fun i : Fin 8 => encodeLayer i.val s.patterns.layers[i]) := by
  rw [State.serveRecipeRead, zipIdx_toList_eq_map_finRange, List.flatMap_map]
  rfl

/-- Settles O36: both kinds are permitted on every port, and their owner's answers change no state. -/
theorem patternReadsGiveTheContents : Obligations.PatternReadsGiveTheContents := by
  intro p tag s hs
  refine ⟨fun slot row column count => ⟨fun hbad => ?_, fun r values hslot hrow hr hvalues => ?_⟩, ?_⟩
  · exact
      exec_of_serve_same (k := .profileRead) (f := ⟨tag, _, [slot, row, column, count]⟩) rfl rfl hs
        rfl rfl (State.serveProfileRead_of_bad_value column count _ hbad)
  · subst hr hvalues
    exact
      exec_of_serve_same (k := .profileRead) (f := ⟨tag, _, [slot, row, column, count]⟩) rfl rfl hs
        rfl rfl (State.serveProfileRead_of_row column count _ (rowOfCode_of_le hrow) hslot)
  · simp only [← encodeLayer_eq]
    exact
      exec_of_serve_same (k := .recipeRead) (f := ⟨tag, _, []⟩) rfl rfl hs rfl rfl
        (State.serveRecipeRead_eq _)

end Sys2Proof.Machine
end

section
/-! PROOF. RECIPE_WRITE (R59, R60): which records are refused, the layer that a record writes, the layers after all records, and the owner's answer. -/

namespace Sys2Proof.Machine

/-! ## The layer of a record (R60, R162) -/

/-- The layer that a record with an op code below 3 writes, its weight brought to 128 at most. -/
def RawLayer.written (r : RawLayer) : Layer :=
  { enabled := r.enabled, slot := r.slot, mask := r.mask, value := r.value
    op := if r.opBits = 0 then .max else if r.opBits = 1 then .add else .cut
    weight := min 128 r.weight }

theorem RawLayer.layer_of_le {r : RawLayer} (h : r.opBits ≤ 2) : r.layer = some r.written := by
  have hop :
      opOfCode r.opBits =
        some (if r.opBits = 0 then .max else if r.opBits = 1 then .add else .cut) := by
    obtain h0 | h1 | h2 : r.opBits = 0 ∨ r.opBits = 1 ∨ r.opBits = 2 := by omega
    · simp [h0, opOfCode]
    · simp [h1, opOfCode]
    · simp [h2, opOfCode]
  simp only [RawLayer.layer, hop, Option.map_some, RawLayer.written]

theorem opOfCode_of_gt {n : Nat} (h : 2 < n) : opOfCode n = none :=
  match n, h with
  | _ + 3, _ => rfl

theorem RawLayer.layer_of_gt {r : RawLayer} (h : 2 < r.opBits) : r.layer = none := by
  simp only [RawLayer.layer, opOfCode_of_gt h, Option.map_none]

/-- The writes that records ask for: each its layer, at its index. -/
def recordWrites (rs : List RawLayer) : List (Nat × Layer) := rs.map fun r => (r.index, r.written)

/-- The two bits of an op code make 3 at most. -/
theorem readLayers_opBits_le {payload : List Byte} {r : RawLayer} (h : r ∈ readLayers payload) :
    r.opBits ≤ 3 := by
  induction payload using readLayers.induct with
  | case1 index control slot condition weight rest ih =>
    rw [readLayers, List.mem_cons] at h
    obtain rfl | h := h
    · exact Nat.le_of_lt_succ (Nat.mod_lt _ (by decide))
    · exact ih h
  | case2 payload hshort => simp [readLayers] at h

/-! ## The checks (R59) -/

/-- A record whose index, slot and op code name something. -/
def RawLayer.Names (r : RawLayer) : Prop := r.index ≤ 7 ∧ r.slot ≤ 3 ∧ r.opBits ≤ 2

/-- Records that all name something and whose indexes are all different and none of `seen`. -/
def RecordsPass (seen : List Nat) (rs : List RawLayer) : Prop :=
  (∀ r ∈ rs, r.Names ∧ r.index ∉ seen) ∧ (rs.map RawLayer.index).Nodup

theorem recordsPass_cons (seen : List Nat) (r : RawLayer) (rest : List RawLayer) :
    RecordsPass seen (r :: rest) ↔
      (r.Names ∧ r.index ∉ seen) ∧ RecordsPass (r.index :: seen) rest := by
  have hsplit :
      (∀ q ∈ rest, q.Names ∧ q.index ∉ r.index :: seen) ↔
        (∀ q ∈ rest, q.Names ∧ q.index ∉ seen) ∧ r.index ∉ rest.map RawLayer.index := by
    simp only [List.mem_cons, List.mem_map, not_or, not_exists, not_and, ← forall₂_and]
    exact forall₂_congr fun q _ => by tauto
  rw [RecordsPass, RecordsPass, hsplit, List.forall_mem_cons, List.map_cons, List.nodup_cons]
  simp only [and_assoc]

/-- Records that pass are taken with their layers. -/
theorem checkRecords_of_pass {seen : List Nat} {rs : List RawLayer} (h : RecordsPass seen rs) :
    checkRecords seen rs = some (recordWrites rs) := by
  induction rs generalizing seen with
  | nil => rfl
  | cons r rest ih =>
    obtain ⟨⟨⟨hindex, hslot, hop⟩, hnew⟩, hrest⟩ := (recordsPass_cons seen r rest).1 h
    have hcheck : ¬(7 < r.index ∨ r.index ∈ seen ∨ 3 < r.slot) := by
      simp [hnew, hindex, hslot]
    simp [checkRecords, hcheck, RawLayer.layer_of_le hop, ih hrest, recordWrites]

/-- Any other records refuse the request. -/
theorem checkRecords_of_not_pass {seen : List Nat} {rs : List RawLayer} (h : ¬RecordsPass seen rs) :
    checkRecords seen rs = none := by
  induction rs generalizing seen with
  | nil => exact absurd (by simp [RecordsPass]) h
  | cons r rest ih =>
    rw [recordsPass_cons] at h
    unfold checkRecords
    split
    · rfl
    · rename_i hcheck
      obtain hop | hop := Nat.lt_or_ge 2 r.opBits
      · simp [RawLayer.layer_of_gt hop]
      · have hr : r.Names ∧ r.index ∉ seen := by
          simp only [RawLayer.Names]
          push Not at hcheck
          obtain ⟨hindex, hnew, hslot⟩ := hcheck
          exact ⟨⟨hindex, hslot, hop⟩, hnew⟩
        simp [ih fun hrest => h ⟨hr, hrest⟩]

/-- Records as read pass where none is out of range and no index comes twice. -/
theorem recordsPass_readLayers (payload : List Byte) :
    RecordsPass [] (readLayers payload) ↔
      ¬((∃ r ∈ readLayers payload, 7 < r.index ∨ 3 < r.slot ∨ r.opBits = 3) ∨
          ¬((readLayers payload).map RawLayer.index).Nodup) := by
  have hnames (r : RawLayer) (hr : r ∈ readLayers payload) :
      r.Names ↔ ¬(7 < r.index ∨ 3 < r.slot ∨ r.opBits = 3) := by
    have hop := readLayers_opBits_le hr
    simp only [RawLayer.Names]
    omega
  simp only [RecordsPass, List.not_mem_nil, not_false_eq_true, and_true, not_or, not_exists,
    not_and, not_not]
  refine and_congr_left' (forall₂_congr fun r hr => ?_)
  rw [hnames r hr]
  tauto

/-! ## The interlock (R50) -/

/-- A session bars the records that would leave a layer enabled on its slot. -/
theorem any_sessionBars_iff (session : Option Session) (rs : List RawLayer) :
    ((recordWrites rs).any fun q => sessionBars session q.2) = true ↔
      ∃ x, session = some x ∧ ∃ r ∈ rs, r.enabled = true ∧ r.slot = x.slot := by
  cases session with
  | none => simp [sessionBars]
  | some x => simp [sessionBars, recordWrites, RawLayer.written]

/-! ## The layers written (R60) -/

theorem writeRecords_cons (layers : Vector Layer 8) (r : RawLayer) (rest : List RawLayer) :
    writeRecords layers (recordWrites (r :: rest)) =
      writeRecords (layers.setIfInBounds r.index r.written) (recordWrites rest) := rfl

/-- A layer after all records: that of the record with its index, else as before. -/
theorem getElem_writeRecords {rs : List RawLayer} (layers : Vector Layer 8) (i : Fin 8)
    (h : (rs.map RawLayer.index).Nodup) :
    (writeRecords layers (recordWrites rs))[i] =
      ((rs.find? fun r => r.index == i.val).map RawLayer.written).getD layers[i] := by
  induction rs generalizing layers with
  | nil => rfl
  | cons r rest ih =>
    rw [List.map_cons, List.nodup_cons] at h
    obtain ⟨hnew, hrest⟩ := h
    rw [writeRecords_cons, ih _ hrest, List.find?_cons]
    by_cases hi : r.index = i.val
    · have hlast : (rest.find? fun q => q.index == i.val) = none := by
        rw [List.find?_eq_none]
        intro q hq heq
        exact hnew (hi ▸ (beq_iff_eq.1 heq) ▸ List.mem_map_of_mem hq)
      simp [hlast, hi]
    · have hother : (r.index == i.val) = false := beq_false_of_ne hi
      simp [hother, hi]

/-! ## The owner's answer -/

/-- Records that fail the first check refuse the request whole. -/
theorem State.serveRecipeWrite_of_bad_value {payload : List Byte} (s : State)
    (h : ¬RecordsPass [] (readLayers payload)) : s.serveRecipeWrite payload = (s, [0x15]) := by
  simp only [State.serveRecipeWrite, checkRecords_of_not_pass h, Result.code]

/-- A record barred by the open session refuses the request whole. -/
theorem State.serveRecipeWrite_of_barred {payload : List Byte} {s : State}
    (h : RecordsPass [] (readLayers payload))
    (hbarred :
      ∃ x, s.patterns.session = some x ∧
        ∃ r ∈ readLayers payload, r.enabled = true ∧ r.slot = x.slot) :
    s.serveRecipeWrite payload = (s, [0x12]) := by
  simp only [State.serveRecipeWrite, checkRecords_of_pass h,
    if_pos ((any_sessionBars_iff _ _).2 hbarred), Result.code]

/-- Where both checks pass, all records are written, with INPUT_CLAMP for a clamped weight. -/
theorem State.serveRecipeWrite_of_pass {payload : List Byte} {s : State}
    (h : RecordsPass [] (readLayers payload))
    (hfree :
      ¬∃ x, s.patterns.session = some x ∧
        ∃ r ∈ readLayers payload, r.enabled = true ∧ r.slot = x.slot) :
    s.serveRecipeWrite payload =
      ({ s with
          patterns :=
            { s.patterns with
              layers := writeRecords s.patterns.layers (recordWrites (readLayers payload)) } }.marked
        { Sticky.clear with
          inputClamp := (readLayers payload).any fun r => decide (128 < r.weight) } [],
        [if ∃ r ∈ readLayers payload, 128 < r.weight then 0x01 else 0x00,
          BitVec.ofNat 8 (readLayers payload).length]) := by
  have hbars := mt (any_sessionBars_iff s.patterns.session (readLayers payload)).1 hfree
  have hlength : (recordWrites (readLayers payload)).length = (readLayers payload).length :=
    List.length_map ..
  simp only [State.serveRecipeWrite, checkRecords_of_pass h, if_neg hbars, hlength]
  simp only [State.raise_eq_marked, List.any_eq_true, decide_eq_true_eq, apply_ite Result.code]
  rfl

/-- Settles O37: the records pass the two checks or fail one of them, and those that pass are written into the layers of their indexes. -/
theorem recipeWriteWritesTheLayers : Obligations.RecipeWriteWritesTheLayers := by
  intro tag payload s records bad barred hs hfive hmin hmax hrecords hbad hbarred
  subst hrecords
  have hlen : RequestKind.recipeWrite.lenAllowed payload.length = true := by
    simp [RequestKind.lenAllowed, hfive, hmin, hmax]
  have hpass : RecordsPass [] (readLayers payload) ↔ ¬bad := by
    rw [recordsPass_readLayers, hbad]
  refine ⟨fun h => ?_, fun h hbar => ?_, fun h hfree => ?_⟩
  · exact
      exec_of_serve_same (k := .recipeWrite) (f := ⟨tag, _, payload⟩) rfl rfl hs rfl hlen
        (State.serveRecipeWrite_of_bad_value _ (mt hpass.1 (not_not_intro h)))
  · exact
      exec_of_serve_same (k := .recipeWrite) (f := ⟨tag, _, payload⟩) rfl rfl hs rfl hlen
        (State.serveRecipeWrite_of_barred (s := s.taking .cab _) (hpass.2 h) (hbarred.1 hbar))
  · refine
      ⟨writeRecords s.patterns.layers (recordWrites (readLayers payload)), fun i => ?_, ?_⟩
    · rw [getElem_writeRecords s.patterns.layers i (hpass.2 h).2]
      cases (readLayers payload).find? fun r => r.index == i.val <;> rfl
    · exact
        exec_of_serve_patterns (k := .recipeWrite) (f := ⟨tag, _, payload⟩) rfl rfl hs rfl hlen
          (State.serveRecipeWrite_of_pass (s := s.taking .cab _) (hpass.2 h) (mt hbarred.2 hfree))

end Sys2Proof.Machine
end

section
/-! PROOF. NOTICE_READ and NOTICE_CONTROL (R135 to R137): a request that writes its own port, the notice line, the pending nodes in their order, and the nodes after a control. -/

namespace Sys2Proof.Machine

/-! ## A request that writes its own port (R151, R152) -/

theorem State.taking_get (p : Port) (f : Frame) (s : State) :
    (s.taking p f).ports.get p = { (s.ports.get p).frameIn with slot := some f } :=
  PerPort.get_set_self ..

/-- A request of kind `k` that passes the dispatch checks leaves what its owner does, with the owner's answer placed. -/
theorem State.takeFrame_of_serve {p : Port} {f : Frame} {k : RequestKind} {r : List Byte}
    {s t : State} (hk : f.kind = k.code) (hs : s.canTake p) (hp : k.permitted p = true)
    (hl : k.lenAllowed f.payload.length = true)
    (hr : (s.taking p f).serve (s.ownersRead p) k p f.payload = (t, r)) :
    s.takeFrame p f = t.onPort p (PortState.placeReply f r) := by
  have hcode : RequestKind.ofCode f.kind = some k := hk ▸ RequestKind.ofCode_code k
  have hdispatch : (s.taking p f).dispatch (s.ownersRead p) p f = (t, r) :=
    (State.dispatch_of_served (s.ownersRead p) _ hcode hp hl).trans hr
  rw [State.takeFrame_of_canTake f hs, ← State.taking, hdispatch]

/-- A write of a port that leaves its link alone: after it, a frame is taken and answered as before it. -/
def KeepsLink (g : PortState → PortState) : Prop :=
  ∀ (f : Frame) (r : List Byte) (x : PortState),
    PortState.placeReply f r (g { x.frameIn with slot := some f }) =
      (g x).answered { tag := f.tag, kind := f.kind + 0x80, payload := r }

/-- The reply placed after a write of the port and a mark is the same as on the state before the request, whose port then has answered. -/
theorem State.placeReply_onPort_taking {g : PortState → PortState} (hg : KeepsLink g) (p : Port)
    (f : Frame) (flags : Sticky) (r : List Byte) (s : State) :
    (((s.taking p f).onPort p g).marked flags []).onPort p (PortState.placeReply f r) =
      ((s.onPort p g).marked flags []).onPort p
        (PortState.answered { tag := f.tag, kind := f.kind + 0x80, payload := r }) := by
  have hport :
      PortState.placeReply f r
          ((g { (s.ports.get p).frameIn with slot := some f }).marked flags []) =
        ((g (s.ports.get p)).marked flags []).answered
          { tag := f.tag, kind := f.kind + 0x80, payload := r } :=
    congrArg (PortState.marked flags []) (hg f r (s.ports.get p))
  simp [State.onPort, State.marked, State.taking, PerPort.map_set, hport]

/-- A request row of kind `k` that passes the dispatch checks, and whose owner writes the port by `g` and raises flags, does so on the state before it and leaves the owner's answer. -/
theorem exec_of_serve_onPort {i : Instr} {p : Port} {f : Frame} {k : RequestKind} {r : List Byte}
    {g : PortState → PortState} {flags : Sticky} {s : State}
    (hi : requestFrame i = some (p, f)) (hk : f.kind = k.code) (hs : s.canTake p)
    (hp : k.permitted p = true) (hl : k.lenAllowed f.payload.length = true) (hg : KeepsLink g)
    (hr :
      (s.taking p f).serve (s.ownersRead p) k p f.payload =
        (((s.taking p f).onPort p g).marked flags [], r)) :
    exec i s = .next (((s.onPort p g).marked flags []).answered p f.tag k r) := by
  rw [exec_of_requestFrame s hi, State.takeFrame_of_serve hk hs hp hl hr,
    State.placeReply_onPort_taking hg, hk, State.answered]

/-- The same for an owner that raises no flag. -/
theorem exec_of_serve_onPort_unmarked {i : Instr} {p : Port} {f : Frame} {k : RequestKind}
    {r : List Byte} {g : PortState → PortState} {s : State}
    (hi : requestFrame i = some (p, f)) (hk : f.kind = k.code) (hs : s.canTake p)
    (hp : k.permitted p = true) (hl : k.lenAllowed f.payload.length = true) (hg : KeepsLink g)
    (hr :
      (s.taking p f).serve (s.ownersRead p) k p f.payload = ((s.taking p f).onPort p g, r)) :
    exec i s = .next ((s.onPort p g).answered p f.tag k r) := by
  rw [← State.marked_nothing (State.onPort p g _)] at hr ⊢
  exact exec_of_serve_onPort hi hk hs hp hl hg hr

/-! ## The notice line (R135) -/

/-- The entries of a vector, in the order of their places. -/
theorem toList_eq_map_finRange {α : Type} {n : Nat} (v : Vector α n) :
    v.toList = (List.finRange n).map fun i => v[i] := by
  apply List.ext_getElem <;> simp

/-- The line of a port is asserted where a pending node has a priority of 1 or more. -/
theorem PortState.lineAsserted_iff (x : PortState) :
    x.lineAsserted = true ↔
      ∃ i : Fin 8, x.nodes[i].pending = true ∧ 1 ≤ x.nodes[i].priority := by
  simp [PortState.lineAsserted, toList_eq_map_finRange]

/-- The pin of a port is high where every pending node has priority 0. -/
theorem State.noticePin_iff (s : State) (p : Port) :
    s.noticePin p = true ↔
      ∀ n : Fin 8,
        (s.ports.get p).nodes[n].pending = true → (s.ports.get p).nodes[n].priority = 0 := by
  rw [State.noticePin, Bool.not_eq_true', ← Bool.not_eq_true, PortState.lineAsserted_iff]
  simp only [not_exists, not_and, Nat.not_le, Nat.lt_one_iff]

/-- The state of the line as a character. -/
theorem PortState.encode8_lineAsserted (x : PortState) :
    encode8 (flagBit x.lineAsserted) =
      if ∃ i : Fin 8, x.nodes[i].pending = true ∧ 1 ≤ x.nodes[i].priority then 0x01 else 0x00 := by
  rw [encode8_flagBit]
  exact if_congr x.lineAsserted_iff rfl rfl

/-! ## The pending nodes in their order (R136) -/

theorem NodeItem.before_iff (a b : NodeItem) :
    a.before b = true ↔
      b.priority < a.priority ∨ (a.priority = b.priority ∧ a.number ≤ b.number) := by
  simp [NodeItem.before]

/-- The order of the list holds between all items of a list that NOTICE_READ gives. -/
theorem pairwise_pendingItems (nodes : Vector Node 8) :
    (pendingItems nodes).Pairwise fun a b => a.before b = true := by
  have total : Std.Total fun a b : NodeItem => a.before b = true :=
    ⟨fun a b => by simp only [NodeItem.before_iff]; omega⟩
  have trans : IsTrans NodeItem fun a b => a.before b = true :=
    ⟨fun a b c => by simp only [NodeItem.before_iff]; omega⟩
  exact List.pairwise_insertionSort _ _

/-- Node `i` as NOTICE_READ lists it. -/
def nodeItem (nodes : Vector Node 8) (i : Fin 8) : NodeItem :=
  { number := i.val, priority := nodes[i].priority }

/-- The numbers of the pending nodes in the order NOTICE_READ gives them. -/
def pendingOrder (nodes : Vector Node 8) : List (Fin 8) :=
  ((List.finRange 8).filter fun i => nodes[i].pending).insertionSort fun i j =>
    (nodeItem nodes i).before (nodeItem nodes j) = true

theorem pendingItems_eq_map_pendingOrder (nodes : Vector Node 8) :
    pendingItems nodes = (pendingOrder nodes).map (nodeItem nodes) := by
  have hmap :=
    List.map_insertionSort (r := fun i j => (nodeItem nodes i).before (nodeItem nodes j) = true)
      (s := fun a b => a.before b = true) (nodeItem nodes)
      ((List.finRange 8).filter fun i => nodes[i].pending) fun _ _ _ _ => Iff.rfl
  rw [pendingOrder, hmap, pendingItems, zipIdx_toList_eq_map_finRange, List.filter_map,
    List.map_map]
  rfl

theorem mem_pendingOrder {nodes : Vector Node 8} {i : Fin 8} :
    i ∈ pendingOrder nodes ↔ nodes[i].pending = true := by
  simp [pendingOrder]

/-- No node stands twice, so that nodes of equal priority stand by strictly ascending number. -/
theorem pairwise_pendingOrder (nodes : Vector Node 8) :
    (pendingOrder nodes).Pairwise fun a b =>
      nodes[b].priority < nodes[a].priority ∨
        (nodes[a].priority = nodes[b].priority ∧ a < b) := by
  have hnodup : (pendingOrder nodes).Nodup :=
    (List.perm_insertionSort _ _).nodup_iff.2 ((List.nodup_finRange 8).filter _)
  have hbefore := pairwise_pendingItems nodes
  rw [pendingItems_eq_map_pendingOrder, List.pairwise_map] at hbefore
  refine hbefore.imp₂ (fun a b hab hne => ?_) hnodup
  rw [NodeItem.before_iff] at hab
  exact hab.imp_right fun ⟨hpriority, hle⟩ => ⟨hpriority, lt_of_le_of_ne hle hne⟩

/-- The owner's answer to NOTICE_READ changes no state and lists the nodes of the port in their order. -/
theorem State.serveNoticeRead_of_port {p : Port} {x : PortState} {s : State}
    (h : s.ports.get p = x) :
    s.serveNoticeRead p =
      (s,
        [0x00, encode8 (flagBit x.lineAsserted), BitVec.ofNat 8 (pendingOrder x.nodes).length] ++
          (pendingOrder x.nodes).flatMap fun i =>
            [BitVec.ofNat 8 i.val, BitVec.ofNat 8 x.nodes[i].priority]) := by
  simp only [State.serveNoticeRead, h, pendingItems_eq_map_pendingOrder, List.length_map,
    List.flatMap_map]
  rfl

/-- Settles O54: NOTICE_READ is permitted on every port, and its owner's answer lists the pending nodes in their order. -/
theorem noticeReadListsThePendingNodes : Obligations.NoticeReadListsThePendingNodes := by
  intro p tag s nodes hs hnodes
  subst hnodes
  refine
    ⟨pendingOrder (s.ports.get p).nodes, fun i => mem_pendingOrder, pairwise_pendingOrder _, ?_⟩
  rw [← PortState.encode8_lineAsserted]
  have hserve :=
    State.serveNoticeRead_of_port (State.taking_get p ⟨tag, RequestKind.noticeRead.code, []⟩ s)
  exact exec_of_serve_same (k := .noticeRead) (f := ⟨tag, _, []⟩) rfl rfl hs rfl rfl hserve

/-! ## The nodes after a control (R137) -/

/-- A node named in both masks or in neither keeps its flag, and any other takes what the set mask says. -/
theorem pendingAfter_eq (set clear old : Bool) :
    pendingAfter set clear old = if set = clear then old else set := by
  cases set <;> cases clear <;> rfl

/-- A priority field counts as a clamp from 16 to 254. -/
theorem priorityClamped_iff (c : Byte) :
    priorityClamped c.toNat = true ↔ 16 ≤ c.toNat ∧ c.toNat ≤ 254 := by
  have hc := c.isLt
  simp only [priorityClamped, Bool.and_eq_true, decide_eq_true_eq]
  omega

theorem any_priorityClamped (fields : List Byte) :
    (fields.any fun c => priorityClamped c.toNat) =
      decide (∃ c ∈ fields, 16 ≤ c.toNat ∧ c.toNat ≤ 254) := by
  rw [Bool.eq_iff_iff]
  simp only [List.any_eq_true, decide_eq_true_eq, priorityClamped_iff]

/-- The node set character has each node's flag at its bit (R157). -/
theorem pendingByte_eq_sum (nodes : Vector Node 8) :
    pendingByte nodes =
      BitVec.ofNat 8
        ((List.finRange 8).map fun (i : Fin 8) => flagBit nodes[i].pending * 2 ^ i.val).sum := by
  simp [pendingByte, encode8, List.finRange_succ, mul_comm, add_assoc]

/-- The node of each number after a control. -/
theorem getElem_controlNodes (payload : List Byte) (nodes : Vector Node 8) (i : Fin 8) :
    (controlNodes payload nodes)[i] =
      { pending :=
          if (payload.getD 8 0).getLsbD i.val = (payload.getD 9 0).getLsbD i.val then
            nodes[i].pending
          else (payload.getD 8 0).getLsbD i.val
        priority := priorityAfter (payload.getD i.val 0).toNat nodes[i].priority } := by
  simp [controlNodes, pendingAfter_eq, bitAt_eq_getLsbD]

/-- Flags raised on every port leave its notice line. -/
theorem State.lineAsserted_marked_flags (flags : Sticky) (s : State) (p : Port) :
    ((s.marked flags []).ports.get p).lineAsserted = (s.ports.get p).lineAsserted := by
  rw [← State.raise_eq_marked, State.raise_ports, PerPort.get_map]
  rfl

/-- The owner's answer to NOTICE_CONTROL writes the nodes of the port alone, with INPUT_CLAMP for a clamped field. -/
theorem State.serveNoticeControl_of_port {p : Port} {payload : List Byte} {x : PortState}
    {after : Vector Node 8} {clamped : Bool} {s : State} (h : s.ports.get p = x)
    (hafter : after = controlNodes payload x.nodes)
    (hclamped : clamped = (payload.take 8).any fun c => priorityClamped c.toNat) :
    s.serveNoticeControl p payload =
      ((s.onPort p fun x => { x with nodes := after }).marked
          { Sticky.clear with inputClamp := clamped } [],
        [if clamped = true then 0x01 else 0x00, pendingByte x.nodes, pendingByte after] ++
          (List.finRange 8).map (fun (i : Fin 8) => BitVec.ofNat 8 after[i].priority) ++
          [if ∃ i : Fin 8, after[i].pending = true ∧ 1 ≤ after[i].priority then 0x01
            else 0x00]) := by
  have hline := PortState.encode8_lineAsserted { x with nodes := after }
  simp only [State.serveNoticeControl, h, ← hafter, ← hclamped, State.raise_eq_marked,
    State.lineAsserted_marked_flags, State.onPort_ports, PerPort.get_set_self, hline,
    toList_eq_map_finRange, List.map_map, apply_ite Result.code]
  rfl

/-- Settles O55: the pin follows the line, and the owner's answer writes the nodes that the fields and the masks give. -/
theorem noticeControlWritesTheNodes : Obligations.NoticeControlWritesTheNodes := by
  refine ⟨State.noticePin_iff, ?_⟩
  intro p tag payload s before after clamped hs hlen hbefore hafter hclamped
  subst hbefore
  have hnodes : after = controlNodes payload (s.ports.get p).nodes := by
    refine Vector.ext fun i hi => ?_
    exact (hafter ⟨i, hi⟩ _ _ _ rfl rfl rfl).trans (getElem_controlNodes payload _ ⟨i, hi⟩).symm
  rw [← any_priorityClamped] at hclamped
  have hserve :=
    State.serveNoticeControl_of_port
      (State.taking_get p ⟨tag, RequestKind.noticeControl.code, payload⟩ s) hnodes hclamped
  rw [← pendingByte_eq_sum, ← pendingByte_eq_sum]
  exact
    exec_of_serve_onPort (i := .noticeControl p tag payload) (k := .noticeControl)
      (f := ⟨tag, _, payload⟩) (g := fun x => { x with nodes := after }) rfl rfl hs rfl
      (by simp [RequestKind.lenAllowed, hlen]) (fun _ _ _ => rfl) hserve

end Sys2Proof.Machine
end

section
/-! PROOF. STATUS_CLEAR (R141): the sticky set and the counters of the requesting port cleared, and the options that are refused. -/

namespace Sys2Proof.Machine

/-- A port with its sticky set and its four error counters cleared. -/
def PortState.clearStatus (x : PortState) : PortState :=
  { x with
    sticky := Sticky.clear
    gapErrors := 0, lengthErrors := 0, crcErrors := 0, dropped := 0 }

/-- FLAGS clears the sticky set and answers it as it stood. -/
theorem State.serveStatusClear_flags {p : Port} {x : PortState} {s : State}
    (h : s.ports.get p = x) :
    s.serveStatusClear p [1] =
      (s.onPort p PortState.clearSticky, [0x00, encodeSticky x.sticky]) := by
  subst h
  rfl

/-- FLAGS_AND_COUNTERS clears the counters too and answers them as they stood. -/
theorem State.serveStatusClear_all {p : Port} {x : PortState} {s : State}
    (h : s.ports.get p = x) :
    s.serveStatusClear p [2] =
      (s.onPort p PortState.clearStatus,
        [0x00, encodeSticky x.sticky] ++ wordBytes (BitVec.ofNat 16 x.gapErrors) ++
            wordBytes (BitVec.ofNat 16 x.lengthErrors) ++
            wordBytes (BitVec.ofNat 16 x.crcErrors) ++
            wordBytes (BitVec.ofNat 16 x.dropped)) := by
  subst h
  simp only [← encode16_eq_wordBytes]
  rfl

/-- Any other option is refused, and no state changes. -/
theorem State.serveStatusClear_of_other {option : Byte} (p : Port) (s : State) (h1 : option ≠ 1)
    (h2 : option ≠ 2) : s.serveStatusClear p [option] = (s, [0x15]) := by
  simp only [State.serveStatusClear]
  split
  · exact absurd (BitVec.eq_of_toNat_eq ‹option.toNat = 1›) h1
  · exact absurd (BitVec.eq_of_toNat_eq ‹option.toNat = 2›) h2
  · rfl

/-- Settles O57: STATUS_CLEAR is permitted on every port, and its one option character decides among the two clearings and the refusal. -/
theorem statusClearClearsTheRequestingPort : Obligations.StatusClearClearsTheRequestingPort := by
  intro p tag s flags hs hflags
  have hsticky : flags = encodeSticky (s.ports.get p).sticky := hflags
  subst hsticky
  refine ⟨?_, ?_, fun option h1 h2 => ?_⟩
  · have hserve :=
      State.serveStatusClear_flags
        (State.taking_get p ⟨tag, RequestKind.statusClear.code, [1]⟩ s)
    exact
      exec_of_serve_onPort_unmarked (i := .statusClearFlags p tag []) (k := .statusClear)
        (f := ⟨tag, _, [1]⟩) rfl rfl hs rfl rfl (fun _ _ _ => rfl) hserve
  · have hserve :=
      State.serveStatusClear_all
        (State.taking_get p ⟨tag, RequestKind.statusClear.code, [2]⟩ s)
    exact
      exec_of_serve_onPort_unmarked (i := .statusClearFlagsAndCounters p tag []) (k := .statusClear)
        (f := ⟨tag, _, [2]⟩) rfl rfl hs rfl rfl (fun _ _ _ => rfl) hserve
  · have hdispatch :=
      State.dispatch_of_served (p := p) (f := ⟨tag, RequestKind.statusClear.code, [option]⟩)
        (k := .statusClear) (s.ownersRead p)
        (s.taking p ⟨tag, RequestKind.statusClear.code, [option]⟩) rfl rfl rfl
    exact
      State.takeFrame_of_dispatch_same hs
        (hdispatch.trans (State.serveStatusClear_of_other p _ h1 h2))

end Sys2Proof.Machine
end

section
/-! PROOF. The frame check (R144, R145): one bit and one character of the register, the register over its own two characters, and the frame that a reply is sent as. -/

namespace Sys2Proof.Machine

/-! ## The register (R145) -/

/-- The register is combined with the polynomial only where its top bit and the data bit differ. -/
theorem crcBit_eq_ite (r : CrcWord) (bit : Bool) :
    crcBit r bit = if r.getLsbD 15 = bit then r <<< 1 else (r <<< 1) ^^^ 0x1021 := by
  simp [crcBit, ite_not]

/-- The characters that follow are run from the register that the characters before them left. -/
theorem crcOf_append (cs ds : List Byte) : crcOf (cs ++ ds) = ds.foldl crcChar (crcOf cs) :=
  List.foldl_append

/-- One character more feeds its eight bits to the register, most significant first. -/
theorem crcOf_concat (cs : List Byte) (c : Byte) :
    crcOf (cs ++ [c]) =
      [ c.getLsbD 7, c.getLsbD 6, c.getLsbD 5, c.getLsbD 4, c.getLsbD 3, c.getLsbD 2, c.getLsbD 1
      , c.getLsbD 0 ].foldl crcBit (crcOf cs) := by
  rw [crcOf_append]
  rfl

/-! ## The register over its own characters (R145)

Where the register's top bit equals the data bit, the register only shifts. Fed with its own bits, top bit first, it does so at every bit, until none of its bits is left. -/

/-- Once `k` bits of a word are shifted out, its bit `j` below them is the top bit, and feeding it shifts the word once more. -/
theorem crcBit_shiftLeft {k j : Nat} (r : CrcWord) (h : j + k = 15) :
    crcBit (r <<< k) (r.getLsbD j) = r <<< (k + 1) := by
  have htop : (r <<< k).getLsbD 15 = r.getLsbD j := by
    have hj : 15 - k = j := by omega
    have hk : ¬15 < k := by omega
    simp only [BitVec.getLsbD_shiftLeft, hj, hk]
    rfl
  rw [crcBit_eq_ite, if_pos htop, BitVec.shiftLeft_add]

/-- Once `k` bits of a word are shifted out, feeding the character of its next eight bits shifts the word by eight more. -/
theorem crcChar_shiftLeft {k j : Nat} (r : CrcWord) (h : j + 8 + k = 16) :
    crcChar (r <<< k) (r.extractLsb' j 8) = r <<< (k + 8) := by
  have hbit (i : Nat) (hi : i < 8) : (r.extractLsb' j 8).getLsbD i = r.getLsbD (j + i) := by
    simp [hi]
  simp (disch := omega) only [crcChar, List.foldl_cons, List.foldl_nil, hbit, crcBit_shiftLeft]

/-- A register run over its own two characters, high byte first, ends at 0. -/
theorem foldl_crcChar_wordBytes (r : CrcWord) : (wordBytes r).foldl crcChar r = 0 :=
  calc
    crcChar (crcChar r (r.extractLsb' 8 8)) (r.extractLsb' 0 8)
    _ = crcChar (r <<< 8) (r.extractLsb' 0 8) := by
      rw [← crcChar_shiftLeft (k := 0) r rfl, BitVec.shiftLeft_zero]
    _ = r <<< 16 := crcChar_shiftLeft r rfl
    _ = 0 := BitVec.shiftLeft_eq_zero le_rfl

/-- Characters followed by the register they leave, high byte first, leave the register at 0. -/
theorem crcOf_append_wordBytes (cs : List Byte) : crcOf (cs ++ wordBytes (crcOf cs)) = 0 := by
  rw [crcOf_append, foldl_crcChar_wordBytes]

/-! ## Frames (R144, R152) -/

/-- The CRC characters of a frame are the register over its body, high byte first. -/
theorem frameCrc_eq_wordBytes (f : Frame) : frameCrc f = wordBytes (crcOf (frameBody f)) := by
  rw [frameCrc, encode16_eq_wordBytes, BitVec.ofNat_toNat, BitVec.setWidth_eq]

/-- The oldest reply in the queue is sent as a frame with its CRC. -/
theorem PortState.sending_of_replies {x : PortState} {r : Reply} {rest : List Reply}
    (h : x.replies = r :: rest) :
    x.sending = some (wireFrame { tag := r.tag, kind := r.kind, payload := r.payload }) := by
  rw [PortState.sending, h]
  rfl

/-- Settles O13: a frame ends with the register over its body, and a register run over its own characters only shifts, so that nothing of it is left. -/
theorem frameCheckLeavesZero : Obligations.FrameCheckLeavesZero := by
  refine ⟨rfl, fun cs c => ?_, fun f => ⟨?_, ?_, fun high low => ?_⟩, fun x r rest h => ?_⟩
  · rw [crcOf_concat, funext₂ crcBit_eq_ite]
  · rw [wireFrame, frameCrc_eq_wordBytes]
    rfl
  · rw [wireFrame, frameCrc_eq_wordBytes]
    exact crcOf_append_wordBytes (frameBody f)
  · exact beq_iff_eq
  · exact PortState.sending_of_replies h

end Sys2Proof.Machine
end

section
/-! PROOF. CONFIG_READ (R163, R173): the three characters of an id, the result of the request, and the reply. -/

namespace Sys2Proof.Machine

/-- An id that names a parameter is returned with the parameter's value, high byte first. -/
theorem readParam_of_some {id : Byte} {q : Param} (x : Params) (h : paramOfId id.toNat = some q) :
    readParam x id = id :: wordBytes (BitVec.ofNat 16 (x.get q)) := by
  rw [readParam, h, ← encode16_eq_wordBytes]

/-- An id that names no parameter is returned with 0xFFFF. -/
theorem readParam_of_none {id : Byte} (x : Params) (h : paramOfId id.toNat = none) :
    readParam x id = [id, 0xFF, 0xFF] := by
  rw [readParam, h]

/-- The answer to CONFIG_READ changes no state: OK_PARTIAL where an id names no parameter and OK else, then each id with its value in request order. -/
theorem State.serveConfigRead_eq (ids : List Byte) (s : State) :
    s.serveConfigRead ids =
      (s,
        (if ∃ id ∈ ids, paramOfId id.toNat = none then 0x02 else 0x00) ::
          ids.flatMap (readParam s.params)) := by
  have hunnamed :
      (ids.any fun id => (paramOfId id.toNat).isNone) = true ↔
        ∃ id ∈ ids, paramOfId id.toNat = none := by
    simp only [List.any_eq_true, Option.isNone_iff_eq_none]
  simp only [State.serveConfigRead, hunnamed]
  split <;> rfl

/-- Settles O11: CONFIG_READ is permitted on every port and allows 1 to 10 ids, so it reaches its owner, whose answer changes no state and reads the ids one by one. -/
theorem configReadGivesTheParameters : Obligations.ConfigReadGivesTheParameters := by
  intro p tag ids s hs hmin hmax
  have hlen : RequestKind.configRead.lenAllowed ids.length = true := by
    simp [RequestKind.lenAllowed, hmin, hmax]
  have hserved :=
    exec_of_serve_same (i := .configRead p tag ids) (k := .configRead) (f := ⟨tag, _, ids⟩) rfl rfl
      hs rfl hlen (State.serveConfigRead_eq ids _)
  refine hserved.trans ?_
  congr 4
  funext id
  split
  · exact readParam_of_some s.params ‹_›
  · exact readParam_of_none s.params ‹_›

end Sys2Proof.Machine
end

section
/-! PROOF. What the effects of commands leave unchanged, block by block: the reports to the Supervisor, the owners' events and the owners' answers; and the ports without their marks. -/

namespace Sys2Proof.Machine

/-! ## The ports without their marks (R134, R140) -/

/-- A port without its sticky set and its notice nodes: what marks leave alone. -/
def PortState.link (x : PortState) : PortState :=
  { x with sticky := Sticky.clear, nodes := resetNodes }

@[simp] theorem PortState.link_link (x : PortState) : x.link.link = x.link := rfl

@[simp] theorem PortState.link_marked (f : Sticky) (ns : List Notice) (x : PortState) :
    (x.marked f ns).link = x.link := rfl

@[simp] theorem PortState.link_setPending (n : Notice) (x : PortState) :
    (x.setPending n).link = x.link := rfl

@[simp] theorem PortState.link_with_sticky (f : Sticky) (x : PortState) :
    { x with sticky := f }.link = x.link := rfl

@[simp] theorem PortState.link_with_nodes (nodes : Vector Node 8) (x : PortState) :
    { x with nodes := nodes }.link = x.link := rfl

@[simp] theorem PerPort.map_map {α β γ : Type} (f : α → β) (g : β → γ) (x : PerPort α) :
    (x.map f).map g = x.map fun a => g (f a) := rfl

/-! ## Reports to the Supervisor (R119 to R122) -/

/-- A recomputation changes the level, the tell-tale and the marks alone. -/
@[simp] theorem State.recompute_keeps (s : State) :
    s.recompute.ports.map PortState.link = s.ports.map PortState.link ∧
    s.recompute.supervisor.safeLatch = s.supervisor.safeLatch ∧
    s.recompute.supervisor.recDevice = s.supervisor.recDevice ∧
    s.recompute.supervisor.recVisFresh = s.supervisor.recVisFresh ∧
    s.recompute.supervisor.recSource = s.supervisor.recSource ∧
    s.recompute.supervisor.recDisagree = s.supervisor.recDisagree ∧
    s.recompute.supervisor.clock = s.supervisor.clock := by
  unfold State.recompute
  split <;> exact ⟨rfl, rfl, rfl, rfl, rfl, rfl, rfl⟩

/-- A report of the device state sets its record and computes the level. -/
@[simp] theorem State.reportDevice_eq (d : Device) (b : Bool) (s : State) :
    s.reportDevice d b =
      { s with
        supervisor :=
          { s.supervisor with
            recDevice := d
            safeLatch := if b then false else s.supervisor.safeLatch } }.recompute := rfl

@[simp] theorem State.reportVisFresh_eq (b : Bool) (s : State) :
    s.reportVisFresh b =
      { s with supervisor := { s.supervisor with recVisFresh := b } }.recompute := rfl

@[simp] theorem State.reportSource_eq (x : Source) (s : State) :
    s.reportSource x = { s with supervisor := { s.supervisor with recSource := x } }.recompute := rfl

@[simp] theorem State.reportDisagree_eq (b : Bool) (s : State) :
    s.reportDisagree b =
      { s with supervisor := { s.supervisor with recDisagree := b } }.recompute := rfl

@[simp] theorem State.reportOverrun_eq (s : State) :
    s.reportOverrun =
      { s with supervisor := { s.supervisor with safeLatch := true } }.recompute := rfl

/-- The report of a VIS change changes the Supervisor and the marks alone, and not the safe latch. -/
@[simp] theorem State.reportVisChange_keeps (b : Bool) (s : State) :
    (s.reportVisChange b).device = s.device ∧ (s.reportVisChange b).resetn = s.resetn ∧
    (s.reportVisChange b).params = s.params ∧ (s.reportVisChange b).shades = s.shades ∧
    (s.reportVisChange b).steering = s.steering ∧ (s.reportVisChange b).patterns = s.patterns ∧
    (s.reportVisChange b).beam = s.beam ∧ (s.reportVisChange b).engine = s.engine ∧
    (s.reportVisChange b).output = s.output ∧
    (s.reportVisChange b).ports.map PortState.link = s.ports.map PortState.link ∧
    (s.reportVisChange b).restartFlags = s.restartFlags ∧
    (s.reportVisChange b).pending = s.pending ∧ (s.reportVisChange b).choices = s.choices ∧
    (s.reportVisChange b).supervisor.safeLatch = s.supervisor.safeLatch := by
  unfold State.reportVisChange
  split <;> simp

/-- The report of a VIS change within a frame start changes the Supervisor and the marks alone. -/
@[simp] theorem State.takeVisReport_keeps (due : Option Bool) (place i : Nat) (s : State) :
    (State.takeVisReport due place i s).device = s.device ∧
    (State.takeVisReport due place i s).resetn = s.resetn ∧
    (State.takeVisReport due place i s).params = s.params ∧
    (State.takeVisReport due place i s).shades = s.shades ∧
    (State.takeVisReport due place i s).steering = s.steering ∧
    (State.takeVisReport due place i s).patterns = s.patterns ∧
    (State.takeVisReport due place i s).beam = s.beam ∧
    (State.takeVisReport due place i s).engine = s.engine ∧
    (State.takeVisReport due place i s).output = s.output ∧
    (State.takeVisReport due place i s).ports.map PortState.link = s.ports.map PortState.link ∧
    (State.takeVisReport due place i s).restartFlags = s.restartFlags ∧
    (State.takeVisReport due place i s).pending = s.pending ∧
    (State.takeVisReport due place i s).choices = s.choices ∧
    (State.takeVisReport due place i s).supervisor.safeLatch = s.supervisor.safeLatch := by
  unfold State.takeVisReport
  split
  · split <;> simp
  · simp

/-! ## The Clock Monitor and the tell-tale (R124, R130) -/

/-- The close of a window changes the Supervisor and the marks alone. -/
@[simp] theorem State.closeWindow_keeps (s : State) :
    (s.closeWindow).device = s.device ∧ (s.closeWindow).resetn = s.resetn ∧
    (s.closeWindow).params = s.params ∧ (s.closeWindow).shades = s.shades ∧
    (s.closeWindow).steering = s.steering ∧ (s.closeWindow).patterns = s.patterns ∧
    (s.closeWindow).beam = s.beam ∧ (s.closeWindow).engine = s.engine ∧
    (s.closeWindow).output = s.output ∧
    (s.closeWindow).ports.map PortState.link = s.ports.map PortState.link ∧
    (s.closeWindow).restartFlags = s.restartFlags ∧ (s.closeWindow).pending = s.pending ∧
    (s.closeWindow).choices = s.choices ∧
    (s.closeWindow).supervisor.safeLatch = s.supervisor.safeLatch := by
  simp only [State.closeWindow]
  split
  · simp
  · split <;> simp

/-- An edge on REFCLK changes the Supervisor alone. -/
@[simp] theorem State.countReference_keeps (s : State) :
    (s.countReference).device = s.device ∧ (s.countReference).resetn = s.resetn ∧
    (s.countReference).params = s.params ∧ (s.countReference).shades = s.shades ∧
    (s.countReference).steering = s.steering ∧ (s.countReference).patterns = s.patterns ∧
    (s.countReference).beam = s.beam ∧ (s.countReference).engine = s.engine ∧
    (s.countReference).output = s.output ∧
    (s.countReference).ports.map PortState.link = s.ports.map PortState.link ∧
    (s.countReference).restartFlags = s.restartFlags ∧ (s.countReference).pending = s.pending ∧
    (s.countReference).choices = s.choices ∧ s.countReference.ports = s.ports ∧
    (s.countReference).supervisor.safeLatch = s.supervisor.safeLatch := by
  unfold State.countReference
  split <;> simp

/-- An expiry of the phase timer changes the tell-tale and the count of free values alone. -/
@[simp] theorem State.expireTellPhase_keeps (s : State) :
    (s.expireTellPhase).device = s.device ∧ (s.expireTellPhase).resetn = s.resetn ∧
    (s.expireTellPhase).params = s.params ∧ (s.expireTellPhase).shades = s.shades ∧
    (s.expireTellPhase).steering = s.steering ∧ (s.expireTellPhase).patterns = s.patterns ∧
    (s.expireTellPhase).beam = s.beam ∧ (s.expireTellPhase).engine = s.engine ∧
    (s.expireTellPhase).output = s.output ∧
    (s.expireTellPhase).ports.map PortState.link = s.ports.map PortState.link ∧
    (s.expireTellPhase).restartFlags = s.restartFlags ∧ (s.expireTellPhase).pending = s.pending ∧
    s.expireTellPhase.ports = s.ports ∧
    (s.expireTellPhase).supervisor.safeLatch = s.supervisor.safeLatch := by
  simp only [State.expireTellPhase]
  split <;> simp

/-! ## The steering events and the steering query (R31 to R44) -/

/-- An edge of the encoder changes the Steering Unit alone. -/
@[simp] theorem State.encoderEdge_keeps (line : EncoderLine) (edge : Edge) (s : State) :
    (s.encoderEdge line edge).device = s.device ∧ (s.encoderEdge line edge).resetn = s.resetn ∧
    (s.encoderEdge line edge).params = s.params ∧ (s.encoderEdge line edge).shades = s.shades ∧
    (s.encoderEdge line edge).patterns = s.patterns ∧ (s.encoderEdge line edge).beam = s.beam ∧
    (s.encoderEdge line edge).engine = s.engine ∧ (s.encoderEdge line edge).output = s.output ∧
    (s.encoderEdge line edge).supervisor = s.supervisor ∧
    (s.encoderEdge line edge).ports.map PortState.link = s.ports.map PortState.link ∧
    (s.encoderEdge line edge).restartFlags = s.restartFlags ∧
    (s.encoderEdge line edge).pending = s.pending ∧ (s.encoderEdge line edge).choices = s.choices ∧
    (s.encoderEdge line edge).ports = s.ports := by
  simp only [State.encoderEdge]
  split
  · simp
  · split <;> simp

/-- The index changes the Steering Unit alone. -/
@[simp] theorem State.encoderIndex_keeps (s : State) :
    (s.encoderIndex).device = s.device ∧ (s.encoderIndex).resetn = s.resetn ∧
    (s.encoderIndex).params = s.params ∧ (s.encoderIndex).shades = s.shades ∧
    (s.encoderIndex).patterns = s.patterns ∧ (s.encoderIndex).beam = s.beam ∧
    (s.encoderIndex).engine = s.engine ∧ (s.encoderIndex).output = s.output ∧
    (s.encoderIndex).supervisor = s.supervisor ∧
    (s.encoderIndex).ports.map PortState.link = s.ports.map PortState.link ∧
    (s.encoderIndex).restartFlags = s.restartFlags ∧ (s.encoderIndex).pending = s.pending ∧
    (s.encoderIndex).choices = s.choices ∧ s.encoderIndex.ports = s.ports := by
  simp only [State.encoderIndex]
  split <;> simp

/-- Step 1 of the steering query changes the Steering Unit, the Supervisor and the marks alone. -/
@[simp] theorem State.queryPlausibility_keeps (s : State) :
    (s.queryPlausibility).device = s.device ∧ (s.queryPlausibility).resetn = s.resetn ∧
    (s.queryPlausibility).params = s.params ∧ (s.queryPlausibility).shades = s.shades ∧
    (s.queryPlausibility).patterns = s.patterns ∧ (s.queryPlausibility).beam = s.beam ∧
    (s.queryPlausibility).engine = s.engine ∧ (s.queryPlausibility).output = s.output ∧
    (s.queryPlausibility).ports.map PortState.link = s.ports.map PortState.link ∧
    (s.queryPlausibility).restartFlags = s.restartFlags ∧
    (s.queryPlausibility).pending = s.pending ∧ (s.queryPlausibility).choices = s.choices ∧
    (s.queryPlausibility).supervisor.safeLatch = s.supervisor.safeLatch := by
  simp only [State.queryPlausibility]
  split
  · split
    · simp [State.moveDisagree]
    · split <;> simp [State.moveDisagree]
  · simp

/-- Step 4 of the steering query changes the Steering Unit, the Supervisor and the marks alone. -/
@[simp] theorem State.holdSource_keeps (x : Source) (s : State) :
    (s.holdSource x).device = s.device ∧ (s.holdSource x).resetn = s.resetn ∧
    (s.holdSource x).params = s.params ∧ (s.holdSource x).shades = s.shades ∧
    (s.holdSource x).patterns = s.patterns ∧ (s.holdSource x).beam = s.beam ∧
    (s.holdSource x).engine = s.engine ∧ (s.holdSource x).output = s.output ∧
    (s.holdSource x).ports.map PortState.link = s.ports.map PortState.link ∧
    (s.holdSource x).restartFlags = s.restartFlags ∧ (s.holdSource x).pending = s.pending ∧
    (s.holdSource x).choices = s.choices ∧
    (s.holdSource x).supervisor.safeLatch = s.supervisor.safeLatch := by
  unfold State.holdSource
  split <;> simp

/-- The run counters are all that a comparison changes. -/
@[simp] theorem runsAfter_keeps (b : Bool) (x : Steering) :
    (runsAfter b x).latch = x.latch ∧ (runsAfter b x).town = x.town ∧
    (runsAfter b x).count = x.count ∧ (runsAfter b x).decoder = x.decoder ∧
    (runsAfter b x).slips = x.slips ∧ (runsAfter b x).encA = x.encA ∧
    (runsAfter b x).encB = x.encB ∧ (runsAfter b x).disagree = x.disagree ∧
    (runsAfter b x).source = x.source := by
  cases b <;> simp [runsAfter]

/-- Of the Steering Unit, step 1 of the query changes DISAGREE and its runs alone. -/
@[simp] theorem State.queryPlausibility_steering (s : State) :
    s.queryPlausibility.steering.latch = s.steering.latch ∧
    s.queryPlausibility.steering.town = s.steering.town ∧
    s.queryPlausibility.steering.count = s.steering.count ∧
    s.queryPlausibility.steering.decoder = s.steering.decoder ∧
    s.queryPlausibility.steering.slips = s.steering.slips ∧
    s.queryPlausibility.steering.encA = s.steering.encA ∧
    s.queryPlausibility.steering.encB = s.steering.encB := by
  simp only [State.queryPlausibility]
  split
  · split
    · simp [State.moveDisagree]
    · split <;> simp [State.moveDisagree]
  · simp

/-- Of the Steering Unit, step 4 of the query changes the held source alone. -/
@[simp] theorem State.holdSource_steering (x : Source) (s : State) :
    (s.holdSource x).steering.latch = s.steering.latch ∧
    (s.holdSource x).steering.town = s.steering.town ∧
    (s.holdSource x).steering.count = s.steering.count ∧
    (s.holdSource x).steering.decoder = s.steering.decoder ∧
    (s.holdSource x).steering.slips = s.steering.slips ∧
    (s.holdSource x).steering.encA = s.steering.encA ∧
    (s.holdSource x).steering.encB = s.steering.encB := by
  unfold State.holdSource
  split <;> simp

/-! ## Frame starts and completions (R66 to R71, R82) -/

/-- The snapshot changes the Shade Manager and the marks alone. -/
@[simp] theorem State.serveSnapshot_keeps (s : State) :
    (s.serveSnapshot).device = s.device ∧ (s.serveSnapshot).resetn = s.resetn ∧
    (s.serveSnapshot).params = s.params ∧ (s.serveSnapshot).steering = s.steering ∧
    (s.serveSnapshot).patterns = s.patterns ∧ (s.serveSnapshot).beam = s.beam ∧
    (s.serveSnapshot).engine = s.engine ∧ (s.serveSnapshot).output = s.output ∧
    (s.serveSnapshot).supervisor = s.supervisor ∧
    (s.serveSnapshot).ports.map PortState.link = s.ports.map PortState.link ∧
    (s.serveSnapshot).restartFlags = s.restartFlags ∧ (s.serveSnapshot).pending = s.pending ∧
    (s.serveSnapshot).choices = s.choices := by
  simp only [State.serveSnapshot]
  split <;> simp

/-- The beginning of a composition leaves the configuration, the patterns, the beam settings and the links. -/
@[simp] theorem State.beginComposition_keeps (s : State) :
    (s.beginComposition).device = s.device ∧ (s.beginComposition).resetn = s.resetn ∧
    (s.beginComposition).params = s.params ∧ (s.beginComposition).patterns = s.patterns ∧
    (s.beginComposition).beam = s.beam ∧
    (s.beginComposition).ports.map PortState.link = s.ports.map PortState.link ∧
    (s.beginComposition).restartFlags = s.restartFlags ∧ (s.beginComposition).pending = s.pending ∧
    s.beginComposition.shades = s.serveSnapshot.shades ∧
    (s.beginComposition).supervisor.safeLatch = s.supervisor.safeLatch := by
  simp [State.beginComposition, State.askOwners]

/-- Of the Steering Unit, a frame start changes what the query does. -/
@[simp] theorem State.beginComposition_steering (s : State) :
    s.beginComposition.steering.latch = s.steering.latch ∧
    s.beginComposition.steering.town = s.steering.town ∧
    s.beginComposition.steering.count = s.steering.count ∧
    s.beginComposition.steering.decoder = s.steering.decoder ∧
    s.beginComposition.steering.slips = s.steering.slips ∧
    s.beginComposition.steering.encA = s.steering.encA ∧
    s.beginComposition.steering.encB = s.steering.encB := by
  simp [State.beginComposition, State.askOwners]

/-- A frame start that is skipped changes the engine, the Supervisor and the marks alone. -/
@[simp] theorem State.skipFrame_keeps (s : State) :
    (s.skipFrame).device = s.device ∧ (s.skipFrame).resetn = s.resetn ∧
    (s.skipFrame).params = s.params ∧ (s.skipFrame).shades = s.shades ∧
    (s.skipFrame).steering = s.steering ∧ (s.skipFrame).patterns = s.patterns ∧
    (s.skipFrame).beam = s.beam ∧ (s.skipFrame).output = s.output ∧
    (s.skipFrame).ports.map PortState.link = s.ports.map PortState.link ∧
    (s.skipFrame).restartFlags = s.restartFlags ∧ (s.skipFrame).pending = s.pending ∧
    (s.skipFrame).choices = s.choices := by
  simp only [State.skipFrame]
  split <;> simp

/-- A frame start leaves the configuration, the patterns, the beam settings and the links. -/
@[simp] theorem State.frameStart_keeps (s : State) :
    (s.frameStart).device = s.device ∧ (s.frameStart).resetn = s.resetn ∧
    (s.frameStart).params = s.params ∧ (s.frameStart).patterns = s.patterns ∧
    (s.frameStart).beam = s.beam ∧
    (s.frameStart).ports.map PortState.link = s.ports.map PortState.link ∧
    (s.frameStart).restartFlags = s.restartFlags ∧ (s.frameStart).pending = s.pending := by
  simp only [State.frameStart]
  split <;> simp

/-- The same for every frame start. -/
@[simp] theorem State.frameStart_steering (s : State) :
    s.frameStart.steering.latch = s.steering.latch ∧ s.frameStart.steering.town = s.steering.town ∧
    s.frameStart.steering.count = s.steering.count ∧
    s.frameStart.steering.decoder = s.steering.decoder ∧
    s.frameStart.steering.slips = s.steering.slips ∧ s.frameStart.steering.encA = s.steering.encA ∧
    s.frameStart.steering.encB = s.steering.encB := by
  simp only [State.frameStart]
  split <;> simp

/-- The same for an expiry of the frame timer. -/
@[simp] theorem State.frameTimerExpiry_keeps (s : State) :
    (s.frameTimerExpiry).device = s.device ∧ (s.frameTimerExpiry).resetn = s.resetn ∧
    (s.frameTimerExpiry).params = s.params ∧ (s.frameTimerExpiry).patterns = s.patterns ∧
    (s.frameTimerExpiry).beam = s.beam ∧
    (s.frameTimerExpiry).ports.map PortState.link = s.ports.map PortState.link ∧
    (s.frameTimerExpiry).restartFlags = s.restartFlags ∧
    (s.frameTimerExpiry).pending = s.pending := by
  unfold State.frameTimerExpiry
  split <;> simp

/-- Of the Steering Unit, an expiry of the frame timer changes what the query does. -/
@[simp] theorem State.frameTimerExpiry_steering (s : State) :
    s.frameTimerExpiry.steering.latch = s.steering.latch ∧
    s.frameTimerExpiry.steering.town = s.steering.town ∧
    s.frameTimerExpiry.steering.count = s.steering.count ∧
    s.frameTimerExpiry.steering.decoder = s.steering.decoder ∧
    s.frameTimerExpiry.steering.slips = s.steering.slips ∧
    s.frameTimerExpiry.steering.encA = s.steering.encA ∧
    s.frameTimerExpiry.steering.encB = s.steering.encB := by
  unfold State.frameTimerExpiry
  split <;> simp

/-- A completion changes the engine, the Output Stage and the marks alone. -/
@[simp] theorem State.completeComposition_keeps (s : State) :
    (s.completeComposition).device = s.device ∧ (s.completeComposition).resetn = s.resetn ∧
    (s.completeComposition).params = s.params ∧ (s.completeComposition).shades = s.shades ∧
    (s.completeComposition).steering = s.steering ∧ (s.completeComposition).patterns = s.patterns ∧
    (s.completeComposition).beam = s.beam ∧ (s.completeComposition).supervisor = s.supervisor ∧
    (s.completeComposition).ports.map PortState.link = s.ports.map PortState.link ∧
    (s.completeComposition).pending = s.pending := by
  unfold State.completeComposition
  split <;> simp

/-! ## The Output Stage (R105 to R113) -/

/-- A terminal count changes the flash request and the Output Stage alone. -/
@[simp] theorem State.terminalCount_keeps (s : State) :
    (s.terminalCount).device = s.device ∧ (s.terminalCount).resetn = s.resetn ∧
    (s.terminalCount).params = s.params ∧ (s.terminalCount).shades = s.shades ∧
    (s.terminalCount).steering = s.steering ∧ (s.terminalCount).patterns = s.patterns ∧
    (s.terminalCount).engine = s.engine ∧ (s.terminalCount).supervisor = s.supervisor ∧
    (s.terminalCount).ports.map PortState.link = s.ports.map PortState.link ∧
    (s.terminalCount).restartFlags = s.restartFlags ∧ (s.terminalCount).pending = s.pending ∧
    (s.terminalCount).choices = s.choices ∧ s.terminalCount.ports = s.ports := by
  unfold State.terminalCount
  split <;> simp

/-- The expiry of the flash timer changes the Output Stage alone. -/
@[simp] theorem State.expireFlash_keeps (s : State) :
    (s.expireFlash).device = s.device ∧ (s.expireFlash).resetn = s.resetn ∧
    (s.expireFlash).params = s.params ∧ (s.expireFlash).shades = s.shades ∧
    (s.expireFlash).steering = s.steering ∧ (s.expireFlash).patterns = s.patterns ∧
    (s.expireFlash).beam = s.beam ∧ (s.expireFlash).engine = s.engine ∧
    (s.expireFlash).supervisor = s.supervisor ∧
    (s.expireFlash).ports.map PortState.link = s.ports.map PortState.link ∧
    (s.expireFlash).restartFlags = s.restartFlags ∧ (s.expireFlash).pending = s.pending ∧
    (s.expireFlash).choices = s.choices ∧ s.expireFlash.ports = s.ports := by
  simp [State.expireFlash]

/-- An edge on LOW_REQ changes the Output Stage alone. -/
@[simp] theorem State.lowRequest_keeps (e : Edge) (s : State) :
    (s.lowRequest e).device = s.device ∧ (s.lowRequest e).resetn = s.resetn ∧
    (s.lowRequest e).params = s.params ∧ (s.lowRequest e).shades = s.shades ∧
    (s.lowRequest e).steering = s.steering ∧ (s.lowRequest e).patterns = s.patterns ∧
    (s.lowRequest e).beam = s.beam ∧ (s.lowRequest e).engine = s.engine ∧
    (s.lowRequest e).supervisor = s.supervisor ∧
    (s.lowRequest e).ports.map PortState.link = s.ports.map PortState.link ∧
    (s.lowRequest e).restartFlags = s.restartFlags ∧ (s.lowRequest e).pending = s.pending ∧
    (s.lowRequest e).choices = s.choices ∧ (s.lowRequest e).ports = s.ports := by
  simp [State.lowRequest]

/-! ## Freshness (R153, R154) -/

/-- A refresh changes the port, the Supervisor and the marks alone. -/
@[simp] theorem State.refresh_keeps (p : Port) (s : State) :
    (s.refresh p).device = s.device ∧ (s.refresh p).resetn = s.resetn ∧
    (s.refresh p).params = s.params ∧ (s.refresh p).shades = s.shades ∧
    (s.refresh p).steering = s.steering ∧ (s.refresh p).patterns = s.patterns ∧
    (s.refresh p).beam = s.beam ∧ (s.refresh p).engine = s.engine ∧
    (s.refresh p).output = s.output ∧ (s.refresh p).restartFlags = s.restartFlags ∧
    (s.refresh p).pending = s.pending ∧ (s.refresh p).choices = s.choices ∧
    (s.refresh p).ports.map PortState.link = (s.ports.map PortState.link).set p ((s.ports.get p).refreshed (s.params.timeout p)).link ∧
    (s.refresh p).supervisor.safeLatch = s.supervisor.safeLatch := by
  simp only [State.refresh]
  split
  · simp [PortState.refreshed]
  · cases p <;> simp [PortState.refreshed]

/-- The close of a session changes Pattern Memory and the marks alone. -/
@[simp] theorem State.closeSession_keeps (s : State) :
    (s.closeSession).device = s.device ∧ (s.closeSession).resetn = s.resetn ∧
    (s.closeSession).params = s.params ∧ (s.closeSession).shades = s.shades ∧
    (s.closeSession).steering = s.steering ∧ (s.closeSession).beam = s.beam ∧
    (s.closeSession).engine = s.engine ∧ (s.closeSession).output = s.output ∧
    (s.closeSession).supervisor = s.supervisor ∧
    (s.closeSession).ports.map PortState.link = s.ports.map PortState.link ∧
    (s.closeSession).restartFlags = s.restartFlags ∧ (s.closeSession).pending = s.pending ∧
    (s.closeSession).choices = s.choices ∧
    s.closeSession.patterns = { s.patterns with session := none } := by
  unfold State.closeSession
  split
  · simp [← ‹s.patterns.session = none›]
  · simp

/-- The CAB stale event at Beam Control changes the beam settings alone. -/
@[simp] theorem State.lowerBeam_keeps (s : State) :
    (s.lowerBeam).device = s.device ∧ (s.lowerBeam).resetn = s.resetn ∧
    (s.lowerBeam).params = s.params ∧ (s.lowerBeam).shades = s.shades ∧
    (s.lowerBeam).steering = s.steering ∧ (s.lowerBeam).patterns = s.patterns ∧
    (s.lowerBeam).engine = s.engine ∧ (s.lowerBeam).output = s.output ∧
    (s.lowerBeam).supervisor = s.supervisor ∧
    (s.lowerBeam).ports.map PortState.link = s.ports.map PortState.link ∧
    (s.lowerBeam).restartFlags = s.restartFlags ∧ (s.lowerBeam).pending = s.pending ∧
    (s.lowerBeam).choices = s.choices ∧ s.lowerBeam.ports = s.ports := by
  unfold State.lowerBeam
  split <;> simp

/-- The expiry of a freshness timer leaves the configuration, the engine and the Output Stage. -/
@[simp] theorem State.freshnessExpiry_keeps (p : Port) (s : State) :
    (s.freshnessExpiry p).device = s.device ∧ (s.freshnessExpiry p).resetn = s.resetn ∧
    (s.freshnessExpiry p).params = s.params ∧ (s.freshnessExpiry p).engine = s.engine ∧
    (s.freshnessExpiry p).output = s.output ∧ (s.freshnessExpiry p).restartFlags = s.restartFlags ∧
    (s.freshnessExpiry p).pending = s.pending ∧ (s.freshnessExpiry p).choices = s.choices ∧
    (s.freshnessExpiry p).supervisor.safeLatch = s.supervisor.safeLatch := by
  unfold State.freshnessExpiry
  split
  · cases p <;> simp [State.tellDependents, State.shadesStale, State.motionStale]
  · simp

/-- The port whose timer runs out becomes STALE, and the other ports are marked alone. -/
theorem State.freshnessExpiry_links (p : Port) (s : State) :
    (s.freshnessExpiry p).ports.map PortState.link =
      if (s.ports.get p).fresh = true then
        (s.ports.map PortState.link).set p (s.ports.get p).staled.link
      else s.ports.map PortState.link := by
  unfold State.freshnessExpiry
  split
  · cases p <;>
      simp [State.tellDependents, State.shadesStale, State.motionStale, PortState.staled]
  · rfl

end Sys2Proof.Machine
end

section
/-! PROOF. What the owners' answers leave unchanged, and the effects that a command can have: an invariant that each effect keeps is kept by every command and every step. -/

namespace Sys2Proof.Machine

/-! ## The owners' answers (R151) -/

/-- A merge changes the Shade Manager and the marks alone. -/
@[simp] theorem State.applyMerge_keeps (m : Merge) (s : State) :
    (s.applyMerge m).device = s.device ∧ (s.applyMerge m).resetn = s.resetn ∧
    (s.applyMerge m).params = s.params ∧ (s.applyMerge m).steering = s.steering ∧
    (s.applyMerge m).patterns = s.patterns ∧ (s.applyMerge m).beam = s.beam ∧
    (s.applyMerge m).engine = s.engine ∧ (s.applyMerge m).output = s.output ∧
    (s.applyMerge m).supervisor = s.supervisor ∧
    (s.applyMerge m).ports.map PortState.link = s.ports.map PortState.link ∧
    (s.applyMerge m).restartFlags = s.restartFlags ∧ (s.applyMerge m).pending = s.pending ∧
    (s.applyMerge m).choices = s.choices ∧ (s.applyMerge m).shades.table = m.table := by
  simp only [State.applyMerge]
  split <;> simp

/-- The answer to SHADE_LIST changes the Shade Manager and the marks alone. -/
@[simp] theorem State.serveShadeList_keeps (payload : List Byte) (s : State) :
    (s.serveShadeList payload).1.device = s.device ∧
    (s.serveShadeList payload).1.resetn = s.resetn ∧
    (s.serveShadeList payload).1.params = s.params ∧
    (s.serveShadeList payload).1.steering = s.steering ∧
    (s.serveShadeList payload).1.patterns = s.patterns ∧
    (s.serveShadeList payload).1.beam = s.beam ∧ (s.serveShadeList payload).1.engine = s.engine ∧
    (s.serveShadeList payload).1.output = s.output ∧
    (s.serveShadeList payload).1.supervisor = s.supervisor ∧
    (s.serveShadeList payload).1.ports.map PortState.link = s.ports.map PortState.link ∧
    (s.serveShadeList payload).1.restartFlags = s.restartFlags ∧
    (s.serveShadeList payload).1.pending = s.pending ∧
    (s.serveShadeList payload).1.choices = s.choices := by
  simp only [State.serveShadeList]
  split <;> simp

/-- The answer to MOTION changes the Steering Unit and the marks alone. -/
@[simp] theorem State.serveMotion_keeps (payload : List Byte) (s : State) :
    (s.serveMotion payload).1.device = s.device ∧ (s.serveMotion payload).1.resetn = s.resetn ∧
    (s.serveMotion payload).1.params = s.params ∧ (s.serveMotion payload).1.shades = s.shades ∧
    (s.serveMotion payload).1.patterns = s.patterns ∧ (s.serveMotion payload).1.beam = s.beam ∧
    (s.serveMotion payload).1.engine = s.engine ∧ (s.serveMotion payload).1.output = s.output ∧
    (s.serveMotion payload).1.supervisor = s.supervisor ∧
    (s.serveMotion payload).1.ports.map PortState.link = s.ports.map PortState.link ∧
    (s.serveMotion payload).1.restartFlags = s.restartFlags ∧
    (s.serveMotion payload).1.pending = s.pending ∧
    (s.serveMotion payload).1.choices = s.choices := by
  unfold State.serveMotion
  split <;> simp

/-- The answer to MODE changes the beam settings and the marks alone. -/
@[simp] theorem State.serveMode_keeps (payload : List Byte) (s : State) :
    (s.serveMode payload).1.device = s.device ∧ (s.serveMode payload).1.resetn = s.resetn ∧
    (s.serveMode payload).1.params = s.params ∧ (s.serveMode payload).1.shades = s.shades ∧
    (s.serveMode payload).1.steering = s.steering ∧ (s.serveMode payload).1.patterns = s.patterns ∧
    (s.serveMode payload).1.engine = s.engine ∧ (s.serveMode payload).1.output = s.output ∧
    (s.serveMode payload).1.supervisor = s.supervisor ∧
    (s.serveMode payload).1.ports.map PortState.link = s.ports.map PortState.link ∧
    (s.serveMode payload).1.restartFlags = s.restartFlags ∧
    (s.serveMode payload).1.pending = s.pending ∧ (s.serveMode payload).1.choices = s.choices := by
  unfold State.serveMode
  split <;> simp

/-- The answer to CONFIG_WRITE changes the parameters, the Steering Unit and the marks alone. -/
@[simp] theorem State.serveConfigWrite_keeps (payload : List Byte) (s : State) :
    (s.serveConfigWrite payload).1.device = s.device ∧
    (s.serveConfigWrite payload).1.resetn = s.resetn ∧
    (s.serveConfigWrite payload).1.shades = s.shades ∧
    (s.serveConfigWrite payload).1.patterns = s.patterns ∧
    (s.serveConfigWrite payload).1.beam = s.beam ∧
    (s.serveConfigWrite payload).1.engine = s.engine ∧
    (s.serveConfigWrite payload).1.output = s.output ∧
    (s.serveConfigWrite payload).1.supervisor = s.supervisor ∧
    (s.serveConfigWrite payload).1.ports.map PortState.link = s.ports.map PortState.link ∧
    (s.serveConfigWrite payload).1.restartFlags = s.restartFlags ∧
    (s.serveConfigWrite payload).1.pending = s.pending ∧
    (s.serveConfigWrite payload).1.choices = s.choices := by
  simp [State.serveConfigWrite]

/-- A lamp's settings written change the engine and the Output Stage alone. -/
@[simp] theorem State.writeLamp_keeps (x : LampSettings) (k : Side) (s : State) :
    (s.writeLamp x k).device = s.device ∧ (s.writeLamp x k).resetn = s.resetn ∧
    (s.writeLamp x k).params = s.params ∧ (s.writeLamp x k).shades = s.shades ∧
    (s.writeLamp x k).steering = s.steering ∧ (s.writeLamp x k).patterns = s.patterns ∧
    (s.writeLamp x k).beam = s.beam ∧ (s.writeLamp x k).supervisor = s.supervisor ∧
    (s.writeLamp x k).ports.map PortState.link = s.ports.map PortState.link ∧
    (s.writeLamp x k).restartFlags = s.restartFlags ∧ (s.writeLamp x k).pending = s.pending ∧
    (s.writeLamp x k).choices = s.choices := by
  simp only [State.writeLamp]
  split
  · simp
  · split <;> simp

/-- The same for the lamps of a selector. -/
@[simp] theorem State.writeLamps_keeps (x : LampSettings) (sel : ShadeLamps) (s : State) :
    (s.writeLamps x sel).device = s.device ∧ (s.writeLamps x sel).resetn = s.resetn ∧
    (s.writeLamps x sel).params = s.params ∧ (s.writeLamps x sel).shades = s.shades ∧
    (s.writeLamps x sel).steering = s.steering ∧ (s.writeLamps x sel).patterns = s.patterns ∧
    (s.writeLamps x sel).beam = s.beam ∧ (s.writeLamps x sel).supervisor = s.supervisor ∧
    (s.writeLamps x sel).ports.map PortState.link = s.ports.map PortState.link ∧
    (s.writeLamps x sel).restartFlags = s.restartFlags ∧ (s.writeLamps x sel).pending = s.pending ∧
    (s.writeLamps x sel).choices = s.choices := by
  cases sel <;> simp [State.writeLamps]

/-- The answer to LAMP_CONTROL changes the engine and the Output Stage alone. -/
@[simp] theorem State.serveLampControl_keeps (payload : List Byte) (s : State) :
    (s.serveLampControl payload).1.device = s.device ∧
    (s.serveLampControl payload).1.resetn = s.resetn ∧
    (s.serveLampControl payload).1.params = s.params ∧
    (s.serveLampControl payload).1.shades = s.shades ∧
    (s.serveLampControl payload).1.steering = s.steering ∧
    (s.serveLampControl payload).1.patterns = s.patterns ∧
    (s.serveLampControl payload).1.beam = s.beam ∧
    (s.serveLampControl payload).1.supervisor = s.supervisor ∧
    (s.serveLampControl payload).1.ports.map PortState.link = s.ports.map PortState.link ∧
    (s.serveLampControl payload).1.restartFlags = s.restartFlags ∧
    (s.serveLampControl payload).1.pending = s.pending ∧
    (s.serveLampControl payload).1.choices = s.choices := by
  unfold State.serveLampControl
  split
  · split <;> simp
  · simp

/-- The answer to RECIPE_WRITE changes Pattern Memory and the marks alone. -/
@[simp] theorem State.serveRecipeWrite_keeps (payload : List Byte) (s : State) :
    (s.serveRecipeWrite payload).1.device = s.device ∧
    (s.serveRecipeWrite payload).1.resetn = s.resetn ∧
    (s.serveRecipeWrite payload).1.params = s.params ∧
    (s.serveRecipeWrite payload).1.shades = s.shades ∧
    (s.serveRecipeWrite payload).1.steering = s.steering ∧
    (s.serveRecipeWrite payload).1.beam = s.beam ∧
    (s.serveRecipeWrite payload).1.engine = s.engine ∧
    (s.serveRecipeWrite payload).1.output = s.output ∧
    (s.serveRecipeWrite payload).1.supervisor = s.supervisor ∧
    (s.serveRecipeWrite payload).1.ports.map PortState.link = s.ports.map PortState.link ∧
    (s.serveRecipeWrite payload).1.restartFlags = s.restartFlags ∧
    (s.serveRecipeWrite payload).1.pending = s.pending ∧
    (s.serveRecipeWrite payload).1.choices = s.choices := by
  simp only [State.serveRecipeWrite]
  split
  · simp
  · split <;> simp

/-- The answer to PROFILE_OPEN changes Pattern Memory and the marks alone. -/
@[simp] theorem State.serveProfileOpen_keeps (payload : List Byte) (s : State) :
    (s.serveProfileOpen payload).1.device = s.device ∧
    (s.serveProfileOpen payload).1.resetn = s.resetn ∧
    (s.serveProfileOpen payload).1.params = s.params ∧
    (s.serveProfileOpen payload).1.shades = s.shades ∧
    (s.serveProfileOpen payload).1.steering = s.steering ∧
    (s.serveProfileOpen payload).1.beam = s.beam ∧
    (s.serveProfileOpen payload).1.engine = s.engine ∧
    (s.serveProfileOpen payload).1.output = s.output ∧
    (s.serveProfileOpen payload).1.supervisor = s.supervisor ∧
    (s.serveProfileOpen payload).1.ports.map PortState.link = s.ports.map PortState.link ∧
    (s.serveProfileOpen payload).1.restartFlags = s.restartFlags ∧
    (s.serveProfileOpen payload).1.pending = s.pending ∧
    (s.serveProfileOpen payload).1.choices = s.choices := by
  unfold State.serveProfileOpen
  split
  · split <;> simp
  · simp

/-- The answer to PROFILE_DATA changes Pattern Memory and the marks alone. -/
@[simp] theorem State.serveProfileData_keeps (payload : List Byte) (s : State) :
    (s.serveProfileData payload).1.device = s.device ∧
    (s.serveProfileData payload).1.resetn = s.resetn ∧
    (s.serveProfileData payload).1.params = s.params ∧
    (s.serveProfileData payload).1.shades = s.shades ∧
    (s.serveProfileData payload).1.steering = s.steering ∧
    (s.serveProfileData payload).1.beam = s.beam ∧
    (s.serveProfileData payload).1.engine = s.engine ∧
    (s.serveProfileData payload).1.output = s.output ∧
    (s.serveProfileData payload).1.supervisor = s.supervisor ∧
    (s.serveProfileData payload).1.ports.map PortState.link = s.ports.map PortState.link ∧
    (s.serveProfileData payload).1.restartFlags = s.restartFlags ∧
    (s.serveProfileData payload).1.pending = s.pending ∧
    (s.serveProfileData payload).1.choices = s.choices := by
  unfold State.serveProfileData
  split <;> simp

/-- The answer to PROFILE_CLOSE closes the session. -/
@[simp] theorem State.serveProfileClose_fst (s : State) : s.serveProfileClose.1 = s.closeSession := by
  unfold State.serveProfileClose
  split
  · rename_i h
    simp [State.closeSession, h]
  · rfl

/-! ## Reads, which change no state -/

@[simp] theorem State.serveShadeRead_fst (payload : List Byte) (s : State) :
    (s.serveShadeRead payload).1 = s := by
  unfold State.serveShadeRead
  split <;> rfl

@[simp] theorem State.serveFrameRead_fst (payload : List Byte) (s : State) :
    (s.serveFrameRead payload).1 = s := by
  unfold State.serveFrameRead
  split
  · split <;> rfl
  · rfl

@[simp] theorem State.serveProfileRead_fst (payload : List Byte) (s : State) :
    (s.serveProfileRead payload).1 = s := by
  unfold State.serveProfileRead
  split
  · split
    · rfl
    · split <;> rfl
  · rfl

@[simp] theorem State.serveRecipeRead_fst (s : State) : s.serveRecipeRead.1 = s := rfl

@[simp] theorem State.serveConfigRead_fst (payload : List Byte) (s : State) :
    (s.serveConfigRead payload).1 = s := rfl

@[simp] theorem State.serveNoticeRead_fst (p : Port) (s : State) : (s.serveNoticeRead p).1 = s := rfl

/-! ## RUN_CONTROL (R167 to R170) -/

@[simp] theorem State.startRun_eq (s : State) :
    s.startRun = ({ s with device := .run }.reportDevice .run false).frameStart := rfl

@[simp] theorem State.halted_eq (s : State) :
    s.halted =
      { s with
        device := .standby
        shades := s.shades.cleared
        beam := { s.beam with flash := .none }
        engine := s.engine.stopped
        output := s.output.stopped } := rfl

@[simp] theorem State.stopRun_eq (s : State) : s.stopRun = s.halted.reportDevice .standby true := rfl

@[simp] theorem State.restartPart_eq (s : State) :
    s.restartPart =
      ({ s.halted with
          steering := s.steering.restarted
          patterns := { s.patterns with session := none }
          engine := s.engine.restarted
          supervisor := { s.supervisor with recSource := .none, recDisagree := false }
          ports := s.ports.map fun (p : PortState) => { p with sticky := s.restartFlags }
          restartFlags := Sticky.clear }.reportDevice
        .standby true).notify .restart := rfl

/-- A RUN_CONTROL is refused, or starts, stops or restarts the part. -/
theorem State.serveRunControl_cases (payload : List Byte) (s : State) :
    (s.serveRunControl payload).1 = s ∨
      (s.device = .standby ∧ 0 < s.patterns.enabledCount ∧ payload = [1] ∧
        (s.serveRunControl payload).1 = s.startRun) ∨
      (s.device = .run ∧ payload = [2] ∧ (s.serveRunControl payload).1 = s.stopRun) ∨
      (payload = [3] ∧ (s.serveRunControl payload).1 = s.restartPart) := by
  rcases payload with _ | ⟨c, _ | _⟩
  · exact .inl rfl
  · have hc (n : Nat) (h : c.toNat = n) : [c] = [BitVec.ofNat 8 n] := by rw [← h]; simp
    simp only [State.serveRunControl]
    split
    · rename_i h
      unfold State.serveStart
      split
      · rename_i hrun
        exact .inr (.inl ⟨hrun.1, hrun.2, hc 1 h, rfl⟩)
      · exact .inl rfl
    · rename_i h
      unfold State.serveStop
      split
      · rename_i hrun
        exact .inr (.inr (.inl ⟨hrun, hc 2 h, rfl⟩))
      · exact .inl rfl
    · rename_i h
      exact .inr (.inr (.inr ⟨hc 3 h, rfl⟩))
    · exact .inl rfl
  · exact .inl rfl

/-! ## Resets (R166) -/

/-- The rise of RESETN changes the line and the Profile Store alone. -/
@[simp] theorem State.resetnRise_keeps (s : State) :
    s.resetnRise.device = s.device ∧ s.resetnRise.params = s.params ∧
    s.resetnRise.shades = s.shades ∧ s.resetnRise.steering = s.steering ∧
    s.resetnRise.beam = s.beam ∧ s.resetnRise.engine = s.engine ∧ s.resetnRise.output = s.output ∧
    s.resetnRise.supervisor = s.supervisor ∧
    s.resetnRise.ports.map PortState.link = s.ports.map PortState.link ∧
    s.resetnRise.restartFlags = s.restartFlags ∧ s.resetnRise.pending = s.pending ∧
    s.resetnRise.choices = s.choices ∧ s.resetnRise.ports = s.ports ∧
    s.resetnRise.patterns.layers = s.patterns.layers ∧
    s.resetnRise.patterns.session = s.patterns.session := by
  unfold State.resetnRise
  split <;> simp

/-- The end of BOOT changes the device state, the Supervisor and the ports alone. -/
@[simp] theorem State.endOfBoot_keeps (s : State) :
    s.endOfBoot.resetn = s.resetn ∧ s.endOfBoot.params = s.params ∧ s.endOfBoot.shades = s.shades ∧
    s.endOfBoot.steering = s.steering ∧ s.endOfBoot.patterns = s.patterns ∧
    s.endOfBoot.beam = s.beam ∧ s.endOfBoot.engine = s.engine ∧ s.endOfBoot.output = s.output ∧
    s.endOfBoot.restartFlags = s.restartFlags ∧ s.endOfBoot.pending = s.pending ∧
    s.endOfBoot.choices = s.choices ∧
    s.endOfBoot.supervisor.safeLatch = s.supervisor.safeLatch := by
  unfold State.endOfBoot
  split <;> simp

/-- At the end of BOOT every receiver waits for a quiet line, and the ports are marked alone beside. -/
theorem State.endOfBoot_links (s : State) :
    s.endOfBoot.ports.map PortState.link =
      if s.device = .boot ∧ s.resetn = true then s.ports.map fun x => x.settle.link
      else s.ports.map PortState.link := by
  unfold State.endOfBoot
  split <;> simp

/-! ## What every effect keeps, every command keeps -/

/-- The invariant `I` is kept by a write of a port's link that leaves its freshness and its timer, and by each effect that a command can have on the blocks. A field left out holds because the effect changes nothing that `I` speaks of. -/
structure KeptByEffects (I : State → Prop) : Prop where
  onPort : ∀ (s : State) (p : Port) (f : PortState → PortState),
    (∀ x, (f x).fresh = x.fresh ∧ (f x).freshTimer = x.freshTimer) → I s → I (s.onPort p f) := by
      intro s p f _ h; simpa using h
  choices : ∀ (s : State) (n : Nat), I s → I { s with choices := n } := by
    intro s n h; simpa using h
  refresh : ∀ (s : State) (p : Port), I s → I (s.refresh p) := by
    intro s p h; simpa using h
  shadeList : ∀ (s : State) (payload : List Byte), I s → I (s.serveShadeList payload).1 := by
    intro s payload h; simpa using h
  motion : ∀ (s : State) (payload : List Byte), I s → I (s.serveMotion payload).1 := by
    intro s payload h; simpa using h
  mode : ∀ (s : State) (payload : List Byte), I s → I (s.serveMode payload).1 := by
    intro s payload h; simpa using h
  startRun : ∀ s : State, s.device = .standby → I s → I s.startRun := by
    intro s _ h; simpa using h
  stopRun : ∀ s : State, I s → I s.stopRun := by
    intro s h; simpa using h
  restartPart : ∀ s : State, I s → I s.restartPart := by
    intro s h; simpa using h
  configWrite : ∀ (s : State) (payload : List Byte), I s → I (s.serveConfigWrite payload).1 := by
    intro s payload h; simpa using h
  lampControl : ∀ (s : State) (payload : List Byte), I s → I (s.serveLampControl payload).1 := by
    intro s payload h; simpa using h
  recipeWrite : ∀ (s : State) (payload : List Byte), I s → I (s.serveRecipeWrite payload).1 := by
    intro s payload h; simpa using h
  profileOpen : ∀ (s : State) (payload : List Byte), I s → I (s.serveProfileOpen payload).1 := by
    intro s payload h; simpa using h
  profileData : ∀ (s : State) (payload : List Byte), I s → I (s.serveProfileData payload).1 := by
    intro s payload h; simpa using h
  closeSession : ∀ s : State, I s → I s.closeSession := by
    intro s h; simpa using h
  raise : ∀ (s : State) (f : Sticky), I s → I (s.raise f) := by
    intro s f h; simpa using h
  freshnessExpiry : ∀ (s : State) (p : Port), I s → I (s.freshnessExpiry p) := by
    intro s p h; simpa using h
  frameTimerExpiry : ∀ s : State, I s → I s.frameTimerExpiry := by
    intro s h; simpa using h
  completeComposition : ∀ s : State, I s → I s.completeComposition := by
    intro s h; simpa using h
  terminalCount : ∀ s : State, I s → I s.terminalCount := by
    intro s h; simpa using h
  expireFlash : ∀ s : State, I s → I s.expireFlash := by
    intro s h; simpa using h
  closeWindow : ∀ s : State, I s → I s.closeWindow := by
    intro s h; simpa using h
  expireTellPhase : ∀ s : State, I s → I s.expireTellPhase := by
    intro s h; simpa using h
  encoderEdge : ∀ (s : State) (line : EncoderLine) (edge : Edge), I s → I (s.encoderEdge line edge) := by
    intro s line edge h; simpa using h
  encoderIndex : ∀ s : State, I s → I s.encoderIndex := by
    intro s h; simpa using h
  lowRequest : ∀ (s : State) (edge : Edge), I s → I (s.lowRequest edge) := by
    intro s edge h; simpa using h
  hardReset : ∀ s : State, I s → I s.hardReset
  resetnRise : ∀ s : State, I s → I s.resetnRise := by
    intro s h; simpa using h
  endOfBoot : ∀ s : State, I s → I s.endOfBoot := by
    intro s h; simpa using h
  countReference : ∀ s : State, I s → I s.countReference := by
    intro s h; simpa using h

namespace KeptByEffects

variable {I : State → Prop}

/-- Every owner's answer keeps it. -/
theorem serve (h : KeptByEffects I) (v : StatusOwner → State) (k : RequestKind) (p : Port)
    (payload : List Byte) (s : State) (hs : I s) : I (s.serve v k p payload).1 := by
  cases k with
  | shadeList => exact h.shadeList _ _ (h.refresh s p hs)
  | motion => exact h.motion _ _ (h.refresh s p hs)
  | mode => exact h.mode _ _ (h.refresh s p hs)
  | runControl =>
    show I (s.serveRunControl payload).1
    rcases s.serveRunControl_cases payload with e | ⟨hd, -, -, e⟩ | ⟨-, -, e⟩ | ⟨-, e⟩ <;> rw [e]
    · exact hs
    · exact h.startRun s hd hs
    · exact h.stopRun s hs
    · exact h.restartPart s hs
  | configWrite => exact h.configWrite s payload hs
  | lampControl => exact h.lampControl s payload hs
  | recipeWrite => exact h.recipeWrite s payload hs
  | profileOpen => exact h.profileOpen s payload hs
  | profileData => exact h.profileData s payload hs
  | profileClose =>
    show I s.serveProfileClose.1
    rw [State.serveProfileClose_fst]
    exact h.closeSession s hs
  | statusRead => exact h.choices s _ hs
  | statusClear =>
    show I (s.serveStatusClear p payload).1
    unfold State.serveStatusClear
    split
    · split
      · exact h.onPort s p PortState.clearSticky (fun _ => ⟨rfl, rfl⟩) hs
      · exact h.onPort s p PortState.clearStatus (fun _ => ⟨rfl, rfl⟩) hs
      · exact hs
    · exact hs
  | shadeRead =>
    show I (s.serveShadeRead payload).1
    rwa [State.serveShadeRead_fst]
  | frameRead =>
    show I (s.serveFrameRead payload).1
    rwa [State.serveFrameRead_fst]
  | profileRead =>
    show I (s.serveProfileRead payload).1
    rwa [State.serveProfileRead_fst]
  | recipeRead => exact hs
  | configRead => exact hs
  | noticeRead => exact hs
  | noticeControl => exact h.raise _ _ (h.onPort s p _ (fun _ => ⟨rfl, rfl⟩) hs)

/-- A frame that completes on a port keeps it. -/
theorem takeFrameReading (h : KeptByEffects I) (v : StatusOwner → State) (p : Port) (f : Frame)
    (s : State) (hs : I s) : I (s.takeFrameReading v p f) := by
  have hin : I (s.onPort p PortState.frameIn) := h.onPort s p _ (fun _ => ⟨rfl, rfl⟩) hs
  simp only [State.takeFrameReading]
  split
  · exact hs
  · split
    · exact h.onPort _ p _ (fun _ => ⟨rfl, rfl⟩) hin
    · refine h.onPort _ p _ (fun _ => ⟨rfl, rfl⟩) ?_
      have hslot := h.onPort _ p (fun x => { x with slot := some f }) (fun _ => ⟨rfl, rfl⟩) hin
      unfold State.dispatch
      split
      · exact hslot
      · split
        · exact hslot
        · split
          · exact hslot
          · exact h.serve v _ p f.payload _ hslot

/-- A character that a receiver takes keeps it. -/
theorem assemble (h : KeptByEffects I) (v : StatusOwner → State) (p : Port) (c : Byte) (s : State)
    (hs : I s) : I (s.assemble v p c) := by
  have move (f : PortState → PortState)
      (hf : ∀ x, (f x).fresh = x.fresh ∧ (f x).freshTimer = x.freshTimer) : I (s.onPort p f) :=
    h.onPort s p f hf hs
  unfold State.assemble
  split
  · split
    · exact move _ fun _ => ⟨rfl, rfl⟩
    · exact hs
  · exact move _ fun _ => ⟨rfl, rfl⟩
  · exact move _ fun _ => ⟨rfl, rfl⟩
  · split
    · exact move _ fun _ => ⟨rfl, rfl⟩
    · split <;> exact move _ fun _ => ⟨rfl, rfl⟩
  · split <;> exact move _ fun _ => ⟨rfl, rfl⟩
  · exact move _ fun _ => ⟨rfl, rfl⟩
  · split
    · exact h.takeFrameReading v p _ s hs
    · exact move _ fun _ => ⟨rfl, rfl⟩

/-- A character that comes on a port keeps it. -/
theorem takeCharacter (h : KeptByEffects I) (p : Port) (c : Byte) (s : State) (hs : I s) :
    I (s.takeCharacter p c) := by
  simp only [State.takeCharacter, State.takeCharacterReading]
  split
  · exact hs
  · split
    · have hcount := h.choices s (s.choices + 1) hs
      split
      · exact h.assemble _ p c _ (h.onPort _ p _ (fun _ => ⟨rfl, rfl⟩) hcount)
      · exact hcount
    · exact h.assemble _ p c s hs

/-- Every command keeps it. -/
theorem exec (h : KeptByEffects I) {i : Instr} {s t : State} (hs : I s)
    (ht : Machine.exec i s = .next t) : I t := by
  cases hi : requestFrame i with
  | some x =>
    obtain ⟨p, f⟩ := x
    cases (exec_of_requestFrame s hi).symm.trans ht
    exact h.takeFrameReading _ p f s hs
  | none =>
    have move (p : Port) (f : PortState → PortState)
        (hf : ∀ x, (f x).fresh = x.fresh ∧ (f x).freshTimer = x.freshTimer) :
        I (s.onPort p f) := h.onPort s p f hf hs
    cases i <;> simp only [requestFrame, reduceCtorEq] at hi <;> injection ht with ht <;> subst ht
    case lengthFault p len =>
      unfold State.takeLengthFault
      split
      · split
        · exact move p _ fun _ => ⟨rfl, rfl⟩
        · exact hs
      · exact hs
    case crcFault p c =>
      unfold State.takeCrcFault
      split
      · split
        · exact move p _ fun _ => ⟨rfl, rfl⟩
        · exact hs
      · exact hs
    case gapTimerExpiry p =>
      unfold State.gapExpiry
      split
      · exact move p _ fun _ => ⟨rfl, rfl⟩
      · exact hs
    case replySent p =>
      refine move p _ fun x => ?_
      unfold PortState.replySent
      split <;> exact ⟨rfl, rfl⟩
    case freshnessTimerExpiry p => exact h.freshnessExpiry s p hs
    case frameStart => exact h.frameTimerExpiry s hs
    case compositionComplete => exact h.completeComposition s hs
    case terminalCount => exact h.terminalCount s hs
    case flashTimerExpiry => exact h.expireFlash s hs
    case windowClose => exact h.closeWindow s hs
    case tellPhaseExpiry => exact h.expireTellPhase s hs
    case encoderEdge line edge => exact h.encoderEdge s line edge hs
    case indexEvent => exact h.encoderIndex s hs
    case lowReqEdge edge => exact h.lowRequest s edge hs
    case hardReset => exact h.hardReset s hs
    case resetnRise => exact h.resetnRise s hs
    case endOfBoot => exact h.endOfBoot s hs
    case refclkEdge => exact h.countReference s hs
    case characterReceived p c => exact h.takeCharacter p c s hs

end KeptByEffects

/-- A step idles on an empty queue, or is the front command on the state with the rest of the queue. -/
theorem step_cases {s t : State} (h : step s = .next t) :
    (s.pending = [] ∧ t = s) ∨
      ∃ c rest, s.pending = c :: rest ∧ exec c { s with pending := rest } = .next t := by
  unfold step at h
  split at h
  · rename_i hp
    cases h
    exact .inl ⟨hp, rfl⟩
  · rename_i c rest hp
    exact .inr ⟨c, rest, hp, h⟩

/-- An invariant that every effect keeps, and that does not speak of the queue, is kept by every step. -/
theorem KeptByEffects.step {I : State → Prop} (h : KeptByEffects I)
    (hq : ∀ (s : State) (cs : List Instr), I s → I { s with pending := cs }) {s t : State}
    (hs : I s) (ht : Machine.step s = .next t) : I t := by
  obtain ⟨-, rfl⟩ | ⟨c, rest, -, hc⟩ := step_cases ht
  · exact hs
  · exact h.exec (hq s rest hs) hc

end Sys2Proof.Machine
end

section
/-! PROOF. Steps and the queue (assumptions 1, 17): each step takes one command, and no effect touches the queue. -/

namespace Sys2Proof.Machine

/-- Every command has a next state: no meaning faults or refuses. -/
theorem exec_isNext (i : Instr) (s : State) : ∃ t, exec i s = .next t := by
  cases i <;> exact ⟨_, rfl⟩

/-- The queue is what it was before the command. -/
theorem keptByEffects_pending (cs : List Instr) : KeptByEffects fun s => s.pending = cs where
  hardReset _ h := h

/-- Settles O1: it is how `step` takes a command. -/
theorem stepTakesTheFrontCommand : Obligations.StepTakesTheFrontCommand := by
  intro s c rest h
  simp only [step, h]

/-- Settles O2: each command has a next state, and the queue without its first command is kept by it. -/
theorem everyStepTakesOneCommand : Obligations.EveryStepTakesOneCommand := by
  intro s
  have idle (h : s.pending = []) : step s = .next s := by simp only [step, h]
  refine ⟨idle, ?_⟩
  cases hp : s.pending with
  | nil => exact ⟨s, idle hp, hp⟩
  | cons c rest =>
    obtain ⟨t, ht⟩ := exec_isNext c { s with pending := rest }
    have hstep := stepTakesTheFrontCommand s c rest hp
    exact ⟨t, hstep.trans ht, (keptByEffects_pending rest).exec rfl ht⟩

end Sys2Proof.Machine
end

section
/-! PROOF. The Encoder Decoder stays within its limit (R31 to R33, R172). -/

namespace Sys2Proof.Machine

/-- The count is in its range, and a REFERENCED decoder lies within `limit` of the centre. -/
def Steering.Within (limit : Nat) (x : Steering) : Prop :=
  x.count ≤ 65535 ∧ (x.decoder = .referenced → centreDistance x.count ≤ limit)

/-- The limit test leaves the decoder within the limit. -/
theorem limitTest_within {limit : Nat} {x : Steering} (h : x.count ≤ 65535) :
    (limitTest limit x).Within limit := by
  unfold limitTest
  split
  · exact ⟨h, fun hd => by cases hd⟩
  · rename_i hn
    exact ⟨h, fun hd => Nat.not_lt.1 fun hlt => hn ⟨hd, hlt⟩⟩

theorem countAfter_le (count : Nat) (step : Int) : countAfter count step ≤ 65535 := by
  unfold countAfter
  omega

/-- A line that takes its level leaves the count and the decoder. -/
theorem Steering.setLine_keeps (x : Steering) (line : EncoderLine) (edge : Edge) :
    (x.setLine line edge).count = x.count ∧ (x.setLine line edge).decoder = x.decoder := by
  cases line <;> exact ⟨rfl, rfl⟩

theorem Steering.Within.congr {limit : Nat} {x y : Steering} (h : x.Within limit)
    (hc : y.count = x.count) (hd : y.decoder = x.decoder) : y.Within limit := by
  rwa [Steering.Within, hc, hd]

theorem encoderEdge_within (s : State) (line : EncoderLine) (edge : Edge)
    (h : s.steering.Within s.params.encoderLimit) :
    (s.encoderEdge line edge).steering.Within s.params.encoderLimit := by
  obtain ⟨hc, hd⟩ := s.steering.setLine_keeps line edge
  simp only [State.encoderEdge]
  split
  · exact h.congr hc hd
  · split
    · exact h.congr hc hd
    · exact limitTest_within (countAfter_le _ _)

theorem encoderIndex_within (s : State) (h : s.steering.Within s.params.encoderLimit) :
    s.encoderIndex.steering.Within s.params.encoderLimit := by
  unfold State.encoderIndex
  split
  · exact h
  · constructor <;> simp [Config.encoderCentre, centreDistance]

/-- encoder_limit is a value that a pair of a CONFIG_WRITE names or leaves. -/
theorem writePairs_encoderLimit (running : Bool) (x : Params) (pairs : List (Nat × Nat))
    (h : pairs.any namesEncoderLimit = false) :
    (writePairs running x pairs).1.encoderLimit = x.encoderLimit := by
  induction pairs generalizing x with
  | nil => rfl
  | cons pair rest ih =>
    obtain ⟨hpair, hrest⟩ := Bool.or_eq_false_iff.1 h
    have hone : (writePair running x pair).1.encoderLimit = x.encoderLimit := by
      unfold writePair
      split
      · rfl
      · rename_i q hq
        have hne : Param.encoderLimit ≠ q := fun e => by
          simp [namesEncoderLimit, hq, e] at hpair
        split
        · rfl
        · exact x.get_set_of_ne _ hne
    exact (ih _ hrest).trans hone

theorem raiseTownOff_encoderLimit (x : Params) : (raiseTownOff x).encoderLimit = x.encoderLimit := by
  unfold raiseTownOff
  split <;> rfl

/-- A CONFIG_WRITE either names encoder_limit and tests the decoder against it, or leaves it. -/
theorem serveConfigWrite_within (payload : List Byte) (s : State)
    (h : s.steering.Within s.params.encoderLimit) :
    (s.serveConfigWrite payload).1.steering.Within (s.serveConfigWrite payload).1.params.encoderLimit := by
  simp only [State.serveConfigWrite, State.raise_steering, State.raise_params]
  split
  · exact limitTest_within h.1
  · rename_i hn
    rwa [raiseTownOff_encoderLimit, writePairs_encoderLimit _ _ _ (Bool.not_eq_true _ ▸ hn)]

theorem keptByEffects_decoder :
    KeptByEffects fun s => s.steering.Within s.params.encoderLimit where
  motion s payload h := by
    refine Steering.Within.congr (x := s.steering) (by simpa using h) ?_ ?_ <;>
      (unfold State.serveMotion; split <;> simp)
  configWrite := fun s payload h => serveConfigWrite_within payload s h
  startRun s _ h := by simpa [Steering.Within] using h
  restartPart s h := by simpa [Steering.Within, Steering.restarted] using h
  freshnessExpiry s p h := by
    refine Steering.Within.congr (x := s.steering) (by simpa using h) ?_ ?_ <;>
      (unfold State.freshnessExpiry; split <;>
        cases p <;> simp [State.tellDependents, State.shadesStale, State.motionStale])
  frameTimerExpiry s h := by simpa [Steering.Within] using h
  encoderEdge s line edge h := by simpa using encoderEdge_within s line edge h
  encoderIndex s h := by simpa using encoderIndex_within s h
  hardReset s _ := by simp [State.hardReset, State.reset, Steering.Within, Steering.reset, Config.encoderCentre]

/-- Settles O30: the decoder is moved by an edge, an index and a CONFIG_WRITE, each of which tests it where it may leave the limit. -/
theorem stepsKeepTheDecoderWithinItsLimit : Obligations.StepsKeepTheDecoderWithinItsLimit :=
  fun _ _ hs ht => keptByEffects_decoder.step (fun _ _ h => h) hs ht

end Sys2Proof.Machine
end

section
/-! PROOF. The composition begun at a frame start (R66 to R71), and the swivel position in its range (R40, R73). -/

namespace Sys2Proof.Machine

/-! ## The composition that a frame start begins -/

/-- The latched inputs of the composition that a frame start begins (R70, R71). -/
def State.begunFlight (s : State) : Latched :=
  s.askOwners.after.latchInputs s.askOwners.snapshot.steeringQuery
    (s.askOwners.level (Config.levelOrder s.choices))

/-- The inputs are those that their owners hold, but for the table and the target, which the owners are asked for. -/
@[simp] theorem State.begunFlight_keeps (s : State) :
    s.begunFlight.snapshot = s.serveSnapshot.shades.table ∧
    s.begunFlight.target = s.serveSnapshot.steeringQuery.target ∧
    s.begunFlight.clip = s.serveSnapshot.steeringQuery.clip ∧
    s.begunFlight.flags =
      { traffic := s.serveSnapshot.shades.traffic, weather := s.beam.weather
        town := s.steering.town } ∧
    s.begunFlight.mode = s.beam.mode ∧ s.begunFlight.trim = s.beam.trim ∧
    s.begunFlight.layers = s.patterns.layers ∧
    s.begunFlight.profiles = s.patterns.recipeProfiles ∧
    s.begunFlight.riseStep = s.params.riseStep ∧
    s.begunFlight.swivelRate = s.params.swivelRate ∧
    s.begunFlight.lamps = s.output.lamps.map Lamp.latched := by
  simp [State.begunFlight, State.askOwners, State.latchInputs]

@[simp] theorem State.beginComposition_engine (s : State) :
    s.beginComposition.engine = { s.engine with flight := some s.begunFlight } := by
  simp [State.beginComposition, State.begunFlight, State.askOwners]

@[simp] theorem State.beginComposition_output (s : State) :
    s.beginComposition.output =
      { s.output with lamps := s.output.lamps.map Lamp.latch } := by
  simp [State.beginComposition, State.askOwners]

@[simp] theorem State.skipFrame_engine (s : State) :
    s.skipFrame.engine =
      { s.engine with
        repeatCount := bump Config.counterMax s.engine.repeatCount
        consecRepeats := bump 255 s.engine.consecRepeats } := by
  simp only [State.skipFrame]
  split <;> simp

/-- The state at a frame start with the frame timer loaded (R66). -/
def State.timed (s : State) : State :=
  { s with engine := { s.engine with timer := some s.params.framePeriod } }

/-- A frame start finds the engine IDLE and begins a composition, or finds it COMPOSING and is skipped. -/
theorem State.frameStart_cases (s : State) :
    (s.engine.flight = none ∧ s.frameStart = s.timed.beginComposition) ∨
      (s.engine.flight.isSome = true ∧ s.frameStart = s.timed.skipFrame) := by
  cases h : s.engine.flight with
  | none => exact .inl ⟨rfl, State.frameStart_of_idle h⟩
  | some x => exact .inr ⟨rfl, State.frameStart_of_flight h⟩

/-- A frame timer that is stopped does not expire, and one that runs brings a frame start. -/
theorem State.frameTimerExpiry_cases (s : State) :
    (s.engine.timer = none ∧ s.frameTimerExpiry = s) ∨
      (s.engine.timer.isSome = true ∧ s.frameTimerExpiry = s.frameStart) := by
  unfold State.frameTimerExpiry
  split
  · exact .inr ⟨‹_›, rfl⟩
  · rename_i h
    exact .inl ⟨Option.not_isSome_iff_eq_none.1 h, rfl⟩

/-! ## The swivel position (R40, R73) -/

theorem clampSigned_range {bound : Int} (h : 0 ≤ bound) (i : Int) :
    -bound ≤ clampSigned bound i ∧ clampSigned bound i ≤ bound := by
  unfold clampSigned
  omega

/-- The target of a query is clamped to 64 each way (R40). -/
theorem State.steeringQuery_target_range (s : State) :
    -64 ≤ s.steeringQuery.target ∧ s.steeringQuery.target ≤ 64 := by
  simp only [State.steeringQuery, State.formTarget]
  split
  · exact ⟨by omega, by omega⟩
  · exact clampSigned_range (by omega) _

/-- A position in range that moves toward a target in range stays in range (R73). -/
theorem swivelAfter_range (rate : Nat) {target swivel : Int} (ht : -64 ≤ target ∧ target ≤ 64)
    (hs : -64 ≤ swivel ∧ swivel ≤ 64) :
    -64 ≤ swivelAfter rate target swivel ∧ swivelAfter rate target swivel ≤ 64 := by
  unfold swivelAfter clampSigned
  omega

/-- S and the latched target of an engine lie from −64 to +64. -/
def Engine.SwivelOk (e : Engine) : Prop :=
  (-64 ≤ e.swivel ∧ e.swivel ≤ 64) ∧
    ∀ x, e.flight = some x → -64 ≤ x.target ∧ x.target ≤ 64

/-- A stopped engine stands at S = 0 with nothing in flight. -/
theorem Engine.swivelOk_of_idle {e : Engine} (hs : e.swivel = 0) (hf : e.flight = none) :
    e.SwivelOk := by
  refine ⟨by omega, fun x hx => ?_⟩
  rw [hf] at hx
  cases hx

theorem Engine.SwivelOk.frameStart {s : State} (h : s.engine.SwivelOk) : s.frameStart.engine.SwivelOk := by
  obtain ⟨-, e⟩ | ⟨-, e⟩ := s.frameStart_cases <;> rw [e]
  · refine ⟨by simpa [State.timed] using h.1, fun x hx => ?_⟩
    simp only [State.beginComposition_engine, Option.some.injEq] at hx
    subst hx
    simpa using State.steeringQuery_target_range _
  · simpa [State.timed, Engine.SwivelOk] using h

theorem Engine.SwivelOk.completeComposition {s : State} (h : s.engine.SwivelOk) :
    s.completeComposition.engine.SwivelOk := by
  unfold State.completeComposition
  split
  · exact h
  · rename_i x hx
    refine ⟨swivelAfter_range _ (h.2 x hx) h.1, fun y hy => ?_⟩
    cases hy

theorem Engine.SwivelOk.dropLamp {e : Engine} (k : Side) (h : e.SwivelOk) :
    (e.dropLamp k).SwivelOk := by
  refine ⟨h.1, fun y hy => ?_⟩
  obtain ⟨x, hx, rfl⟩ := Option.map_eq_some_iff.1 hy
  exact h.2 x hx

/-- What the settings of a lamp do to the engine: nothing, or what a disable does. -/
theorem State.writeLamp_engine (x : LampSettings) (k : Side) (s : State) :
    (s.writeLamp x k).engine = s.engine ∨ (s.writeLamp x k).engine = s.engine.dropLamp k := by
  simp only [State.writeLamp]
  split
  · exact .inl rfl
  · split
    · exact .inr rfl
    · exact .inl rfl

/-- A LAMP_CONTROL is refused or writes the settings of the lamps it selects. -/
theorem State.serveLampControl_cases (payload : List Byte) (s : State) :
    (s.serveLampControl payload).1 = s ∨
      ∃ x sel, (s.serveLampControl payload).1 = s.writeLamps x sel := by
  unfold State.serveLampControl
  split
  · split
    · exact .inr ⟨_, _, rfl⟩
    · exact .inl rfl
  · exact .inl rfl

/-- What each lamp's settings keep, a LAMP_CONTROL keeps. -/
theorem State.serveLampControl_keeps_of_writeLamp {I : State → Prop}
    (h : ∀ (s : State) (x : LampSettings) (k : Side), I s → I (s.writeLamp x k)) (s : State)
    (payload : List Byte) (hs : I s) : I (s.serveLampControl payload).1 := by
  obtain e | ⟨x, sel, e⟩ := s.serveLampControl_cases payload <;> rw [e]
  · exact hs
  · cases sel
    · exact h s x _ hs
    · exact h s x _ hs
    · exact h _ x _ (h s x _ hs)

theorem keptByEffects_swivel : KeptByEffects fun s => s.engine.SwivelOk where
  startRun s _ h := Engine.SwivelOk.frameStart (by simpa using h)
  stopRun s _ := by simpa using Engine.swivelOk_of_idle (e := s.engine.stopped) rfl rfl
  restartPart s _ := by simpa using Engine.swivelOk_of_idle (e := s.engine.restarted) rfl rfl
  lampControl :=
    State.serveLampControl_keeps_of_writeLamp fun s x k h => by
      obtain e | e := s.writeLamp_engine x k <;> rw [e]
      · exact h
      · exact h.dropLamp k
  frameTimerExpiry s h := by
    obtain ⟨-, e⟩ | ⟨-, e⟩ := s.frameTimerExpiry_cases <;> rw [e]
    · exact h
    · exact h.frameStart
  completeComposition s h := h.completeComposition
  hardReset s _ := Engine.swivelOk_of_idle (e := Engine.reset) rfl rfl

/-- Settles O32: S moves at a completion toward a target that the query has clamped, and is else put to 0. -/
theorem stepsKeepTheSwivelInRange : Obligations.StepsKeepTheSwivelInRange :=
  fun _ _ hs ht => keptByEffects_swivel.step (fun _ _ h => h) hs ht

end Sys2Proof.Machine
end

section
/-! PROOF. Outside RUN nothing is composed (R2, R66, R84, R97, R107, R122, R169): each block at rest stays at rest. -/

namespace Sys2Proof.Machine

/-! ## The blocks at rest -/

/-- The frame timer stopped, nothing in flight, S and the ramp state 0. -/
def Engine.AtRest (e : Engine) : Prop :=
  e.timer = none ∧ e.flight = none ∧ e.swivel = 0 ∧ ∀ k, e.ramp.get k = TwoRows.zero 48

/-- The table empty and TRAFFIC 0. -/
def ShadeManager.AtRest (x : ShadeManager) : Prop := x.table = [] ∧ x.traffic = false

/-- Every lamp dark and the one-shot IDLE. -/
def Output.AtRest (o : Output) : Prop := (∀ k, (o.lamps.get k).isDark) ∧ o.flash = .idle

/-- No flash START waits. -/
def Beam.AtRest (b : Beam) : Prop := ∀ d, b.flash ≠ .start d

/-- A state is quiet where its blocks are at rest and the safe latch is clear. -/
theorem quiet_iff (s : State) :
    Quiet s ↔
      s.engine.AtRest ∧ s.shades.AtRest ∧ s.output.AtRest ∧ s.beam.AtRest ∧
        s.supervisor.safeLatch = false :=
  ⟨fun ⟨ht, hf, hs, hr, htab, htr, hl, hfl, hreq, hlat⟩ =>
      ⟨⟨ht, hf, hs, hr⟩, ⟨htab, htr⟩, ⟨hl, hfl⟩, hreq, hlat⟩,
    fun ⟨⟨ht, hf, hs, hr⟩, ⟨htab, htr⟩, ⟨hl, hfl⟩, hreq, hlat⟩ =>
      ⟨ht, hf, hs, hr, htab, htr, hl, hfl, hreq, hlat⟩⟩

/-- The invariant in terms of the blocks. -/
def QuietBlocks (s : State) : Prop :=
  (s.device = .run → s.engine.timer.isSome = true) ∧
    (s.device ≠ .run →
      s.engine.AtRest ∧ s.shades.AtRest ∧ s.output.AtRest ∧ s.beam.AtRest ∧
        s.supervisor.safeLatch = false)

theorem quietInv_iff (s : State) : QuietInv s ↔ QuietBlocks s := by
  rw [QuietInv, QuietBlocks, quiet_iff]

/-! ## What keeps a block at rest -/

theorem ramp_zero_get (k : Side) :
    ({ left := TwoRows.zero 48, right := TwoRows.zero 48 } : PerSide (TwoRows 48)).get k =
      TwoRows.zero 48 := by
  cases k <;> rfl

theorem Engine.atRest_stopped (e : Engine) : e.stopped.AtRest := ⟨rfl, rfl, rfl, ramp_zero_get⟩

theorem Engine.atRest_restarted (e : Engine) : e.restarted.AtRest := ⟨rfl, rfl, rfl, ramp_zero_get⟩

theorem ShadeManager.atRest_cleared (x : ShadeManager) : x.cleared.AtRest := ⟨rfl, rfl⟩

theorem Lamp.isDark_darkened (l : Lamp) : l.darkened.isDark := ⟨rfl, rfl, rfl⟩

theorem Output.atRest_stopped (o : Output) : o.stopped.AtRest :=
  ⟨fun k => by simpa [Output.stopped] using Lamp.isDark_darkened _, rfl⟩

theorem Beam.atRest_of_none (b : Beam) : Beam.AtRest { b with flash := .none } := nofun

theorem Engine.AtRest.dropLamp {e : Engine} (k : Side) (h : e.AtRest) : (e.dropLamp k).AtRest := by
  obtain ⟨ht, hf, hs, hr⟩ := h
  refine ⟨ht, by simp [Engine.dropLamp, hf], hs, fun m => ?_⟩
  by_cases hm : m = k
  · subst hm
    simp [Engine.dropLamp]
  · simpa [Engine.dropLamp, hm] using hr m

/-- A lamp written while its pair is dark leaves the pair dark. -/
theorem Output.AtRest.set {o : Output} {k : Side} {l : Lamp} (h : o.AtRest) (hl : l.isDark) :
    Output.AtRest { o with lamps := o.lamps.set k l } := by
  refine ⟨fun m => ?_, h.2⟩
  by_cases hm : m = k
  · subst hm
    simpa using hl
  · simpa [hm] using h.1 m

/-- The settings of a lamp are no part of what it shows: a dark lamp stays dark. -/
theorem Output.AtRest.writeLamp {s : State} (x : LampSettings) (k : Side) (h : s.output.AtRest) :
    (s.writeLamp x k).output.AtRest := by
  have hk : (s.output.lamps.get k).isDark := h.1 k
  simp only [State.writeLamp]
  split
  · exact h.set hk
  · split
    · exact h.set (Lamp.isDark_darkened _)
    · exact h.set hk

/-- Outside RUN no shade list is merged (R4). -/
theorem State.serveShadeList_of_not_run {s : State} (payload : List Byte) (h : s.device ≠ .run) :
    s.serveShadeList payload = (s, [Result.refusedState.code]) := by
  simp only [State.serveShadeList, if_neg h]

/-- Outside RUN a MODE places no flash START (R97). -/
theorem Beam.AtRest.serveMode {s : State} (payload : List Byte) (hd : s.device ≠ .run)
    (h : s.beam.AtRest) : (s.serveMode payload).1.beam.AtRest := by
  have flash (code duration : Nat) : ∀ d, (s.applyFlash code duration).request ≠ .start d := by
    unfold State.applyFlash
    split
    · exact h
    · have hno : s.flashAllowed = false := by simp [State.flashAllowed, hd]
      simp only [hno, or_true, if_true]
      exact h
    · exact nofun
    · exact h
  unfold State.serveMode
  split
  · exact flash _ _
  · exact h

theorem Output.AtRest.terminalCount {s : State} (ho : s.output.AtRest) (hb : s.beam.AtRest) :
    s.terminalCount.output.AtRest := by
  unfold State.terminalCount
  split
  · exact ho
  · refine ⟨fun k => ?_, ?_⟩
    · have hk : (s.output.lamps.get k).swap = s.output.lamps.get k := by
        simp [Lamp.swap, (ho.1 k).2.2]
      simpa [hk] using ho.1 k
    · show s.output.flash.receive s.beam.flash = .idle
      rw [ho.2]
      cases hf : s.beam.flash with
      | none => rfl
      | cancel => rfl
      | start d => exact absurd hf (hb d)

theorem Beam.AtRest.terminalCount {s : State} (h : s.beam.AtRest) : s.terminalCount.beam.AtRest := by
  unfold State.terminalCount
  split
  · exact h
  · exact Beam.atRest_of_none _

/-- A CAB stale event lowers the mode and leaves the flash request. -/
theorem State.lowerBeam_flash (s : State) : s.lowerBeam.beam.flash = s.beam.flash := by
  unfold State.lowerBeam
  split <;> rfl

/-- A table that is empty has nothing to release. -/
theorem ShadeManager.AtRest.freshnessExpiry {s : State} (p : Port) (h : s.shades.AtRest) :
    (s.freshnessExpiry p).shades.AtRest := by
  unfold State.freshnessExpiry
  split
  · cases p <;> simpa [State.tellDependents, State.shadesStale, State.motionStale,
      ShadeManager.AtRest, h.1] using h
  · exact h

theorem State.freshnessExpiry_flash (s : State) (p : Port) :
    (s.freshnessExpiry p).beam.flash = s.beam.flash := by
  unfold State.freshnessExpiry
  split
  · cases p <;>
      simp [State.tellDependents, State.shadesStale, State.motionStale, State.lowerBeam_flash]
  · rfl

/-- The frame timer is loaded at a frame start and stopped by nothing in it. -/
@[simp] theorem State.frameStart_timer (s : State) :
    s.frameStart.engine.timer = some s.params.framePeriod := by
  obtain ⟨-, e⟩ | ⟨-, e⟩ := s.frameStart_cases <;> simp [e, State.timed]

@[simp] theorem State.completeComposition_timer (s : State) :
    s.completeComposition.engine.timer = s.engine.timer := by
  unfold State.completeComposition
  split <;> rfl

/-! ## Every step -/

theorem QuietBlocks.writeLamp {s : State} (x : LampSettings) (k : Side) (h : QuietBlocks s) :
    QuietBlocks (s.writeLamp x k) := by
  have engine := s.writeLamp_engine x k
  refine ⟨fun hd => ?_, fun hd => ?_⟩
  · have ht := h.1 (by simpa using hd)
    obtain e | e := engine <;> rw [e] <;> exact ht
  · obtain ⟨he, hx, ho, hb, hl⟩ := h.2 (by simpa using hd)
    refine ⟨?_, by simpa using hx, ho.writeLamp x k, by simpa using hb, by simpa using hl⟩
    obtain e | e := engine <;> rw [e]
    · exact he
    · exact he.dropLamp k

/-- Outside RUN the frame timer is stopped, so none expires; in RUN it is loaded again. -/
theorem QuietBlocks.frameTimerExpiry {s : State} (h : QuietBlocks s) :
    QuietBlocks s.frameTimerExpiry := by
  obtain ⟨-, e⟩ | ⟨ht, e⟩ := s.frameTimerExpiry_cases <;> rw [e]
  · exact h
  · refine ⟨fun _ => by simp, fun hd => ?_⟩
    obtain ⟨⟨hnone, -⟩, -⟩ := h.2 (by simpa using hd)
    simp [hnone] at ht

theorem QuietBlocks.completeComposition {s : State} (h : QuietBlocks s) :
    QuietBlocks s.completeComposition := by
  refine ⟨by simpa using h.1, fun hd => ?_⟩
  have hq := h.2 (by simpa using hd)
  have e : s.completeComposition = s := by simp only [State.completeComposition, hq.1.2.1]
  rwa [e]

/-- A hard reset leaves every block at rest. -/
theorem State.quiet_hardReset (s : State) : QuietBlocks s.hardReset :=
  ⟨nofun, fun _ =>
    ⟨⟨rfl, rfl, rfl, ramp_zero_get⟩, ⟨rfl, rfl⟩, ⟨fun k => by cases k <;> exact ⟨rfl, rfl, rfl⟩, rfl⟩,
      nofun, rfl⟩⟩

/-- The invariant with its blocks named, as `KeptByEffects` reads it. -/
theorem keptByEffects_quiet :
    KeptByEffects fun s =>
      (s.device = .run → s.engine.timer.isSome = true) ∧
        (s.device ≠ .run →
          s.engine.AtRest ∧ s.shades.AtRest ∧ s.output.AtRest ∧ s.beam.AtRest ∧
            s.supervisor.safeLatch = false) where
  shadeList s payload h := by
    refine ⟨by simpa using h.1, fun hd => ?_⟩
    have hd' : s.device ≠ .run := by simpa using hd
    rw [State.serveShadeList_of_not_run payload hd']
    exact h.2 hd'
  mode s payload h := by
    refine ⟨by simpa using h.1, fun hd => ?_⟩
    have hd' : s.device ≠ .run := by simpa using hd
    obtain ⟨he, hx, ho, hb, hl⟩ := h.2 hd'
    exact ⟨by simpa using he, by simpa using hx, by simpa using ho, hb.serveMode payload hd', by simpa using hl⟩
  startRun s _ _ := ⟨fun _ => by simp, fun hd => absurd (by simp) hd⟩
  stopRun s _ :=
    ⟨fun hd => by simp at hd, fun _ =>
      ⟨by simpa using s.engine.atRest_stopped, by simpa using s.shades.atRest_cleared,
        by simpa using s.output.atRest_stopped, by simpa using Beam.atRest_of_none s.beam, by simp⟩⟩
  restartPart s _ :=
    ⟨fun hd => by simp at hd, fun _ =>
      ⟨by simpa using s.engine.atRest_restarted, by simpa using s.shades.atRest_cleared,
        by simpa using s.output.atRest_stopped, by simpa using Beam.atRest_of_none s.beam, by simp⟩⟩
  lampControl := State.serveLampControl_keeps_of_writeLamp fun _ x k h => QuietBlocks.writeLamp x k h
  freshnessExpiry s p h := by
    refine ⟨by simpa using h.1, fun hd => ?_⟩
    obtain ⟨he, hx, ho, hb, hl⟩ := h.2 (by simpa using hd)
    exact ⟨by simpa using he, hx.freshnessExpiry p, by simpa using ho,
      fun d => by
        rw [State.freshnessExpiry_flash]
        exact hb d, by simpa using hl⟩
  frameTimerExpiry _ h := QuietBlocks.frameTimerExpiry h
  completeComposition _ h := QuietBlocks.completeComposition h
  terminalCount s h := by
    refine ⟨by simpa using h.1, fun hd => ?_⟩
    obtain ⟨he, hx, ho, hb, hl⟩ := h.2 (by simpa using hd)
    exact ⟨by simpa using he, by simpa using hx, ho.terminalCount hb, hb.terminalCount, by simpa using hl⟩
  expireFlash s h := by
    refine ⟨h.1, fun hd => ?_⟩
    obtain ⟨he, hx, ho, hb, hl⟩ := h.2 hd
    exact ⟨he, hx, ⟨ho.1, by simp [State.expireFlash, ho.2, OneShot.expire]⟩, hb, hl⟩
  lowRequest _ _ h := h
  hardReset s _ := s.quiet_hardReset
  endOfBoot s h := by
    unfold State.endOfBoot
    split
    · rename_i hboot
      have hq := h.2 (by simp [hboot.1])
      exact ⟨fun hd => by simp at hd, fun _ => by simpa using hq⟩
    · exact h

/-- Settles O58: STOP, RESTART and a hard reset put every block to rest, and outside RUN no effect wakes one but START, which enters RUN. -/
theorem stepsKeepStandbyQuiet : Obligations.StepsKeepStandbyQuiet := by
  intro s t hs ht
  rw [quietInv_iff] at hs ⊢
  exact keptByEffects_quiet.step (fun _ _ h => h) hs ht

end Sys2Proof.Machine
end

section
/-! PROOF. The stages of a composition within their ranges (R74 to R81): a segment's value at most 255 before its trim and its output at most 1023. -/

namespace Sys2Proof

/-! ## Rows of bounded values -/

/-- Every value of a row is at most `m`. -/
def RowAtMost {n : Nat} (m : Nat) (v : Vector Nat n) : Prop := ∀ x ∈ v.toList, x ≤ m

theorem TwoRows.atMost_iff {n m : Nat} (x : TwoRows n) :
    x.atMost m ↔ ∀ r, RowAtMost m (x.row r) := Iff.rfl

theorem TwoRows.atMost_of_rows {n m : Nat} {x : TwoRows n} (hl : RowAtMost m x.lower)
    (hu : RowAtMost m x.upper) : x.atMost m
  | .lower => hl
  | .upper => hu

theorem rowAtMost_replicate {n m a : Nat} (h : a ≤ m) : RowAtMost m (Vector.replicate n a) := by
  intro x hx
  simp only [Vector.toList_replicate, List.mem_replicate] at hx
  exact hx.2 ▸ h

theorem TwoRows.atMost_zero (n m : Nat) : (TwoRows.zero n).atMost m := fun r => by
  rw [TwoRows.row_zero]
  exact rowAtMost_replicate (Nat.zero_le m)

/-- A value of a bounded row, or 0 past its end. -/
theorem RowAtMost.getD_le {n m : Nat} {v : Vector Nat n} (h : RowAtMost m v) (i : Nat) :
    (v[i]?).getD 0 ≤ m := by
  by_cases hi : i < n
  · rw [Vector.getElem?_eq_getElem hi]
    exact h _ (by simp)
  · rw [Vector.getElem?_eq_none (Nat.not_lt.1 hi)]
    exact Nat.zero_le m

theorem rowAtMost_ofFn {n m : Nat} {f : Fin n → Nat} (h : ∀ i, f i ≤ m) :
    RowAtMost m (Vector.ofFn f) := by
  intro x hx
  simp only [Vector.toList_ofFn, List.mem_ofFn] at hx
  obtain ⟨i, rfl⟩ := hx
  exact h i

theorem RowAtMost.setIfInBounds {n m : Nat} {v : Vector Nat n} (h : RowAtMost m v) (i : Nat) {a : Nat}
    (ha : a ≤ m) : RowAtMost m (v.setIfInBounds i a) := by
  intro x hx
  rw [Vector.mem_toList_iff, Vector.mem_iff_getElem] at hx
  obtain ⟨j, hj, rfl⟩ := hx
  rw [Vector.getElem_setIfInBounds]
  split
  · exact ha
  · exact h _ (by simp)

theorem TwoRows.atMost.setRow {n m : Nat} {x : TwoRows n} (h : x.atMost m) (r : Row)
    {v : Vector Nat n} (hv : RowAtMost m v) : (x.setRow r v).atMost m := by
  intro q
  by_cases hq : q = r
  · subst hq
    rwa [TwoRows.row_setRow_self]
  · rw [TwoRows.row_setRow_of_ne x v hq]
    exact h q

namespace Machine

/-! ## Stage 3: the base (R75, R76) -/

theorem columnValue_le {m : Nat} {row : Vector Nat 80} (h : RowAtMost m row) (k : Nat) :
    columnValue row k ≤ m := h.getD_le k

/-- An interpolated value lies between the values of two columns. -/
theorem interpolated_le {m : Nat} {row : Vector Nat 80} (h : RowAtMost m row) (q : Nat) :
    interpolated row q ≤ m := by
  have h1 := columnValue_le h (q / 4)
  have h2 := columnValue_le h (q / 4 + 1)
  have hr : q % 4 < 4 := Nat.mod_lt _ (by decide)
  unfold interpolated
  generalize columnValue row (q / 4) = a at *
  generalize columnValue row (q / 4 + 1) = b at *
  interval_cases q % 4 <;> simp <;> omega

/-- A weight of at most 128 makes a value no greater. -/
theorem contribution_le {weight i : Nat} (hw : weight ≤ 128) : contribution weight i ≤ i := by
  have h : i * weight ≤ i * 128 := Nat.mul_le_mul_left i hw
  unfold contribution
  omega

theorem Base.combine_le {b : Base} {n : Nat} (op : LayerOp) (hb : b.value ≤ 255) (hn : n ≤ 255) :
    (b.combine op n).value ≤ 255 := by
  cases op
  · exact Nat.max_le.2 ⟨hb, hn⟩
  · exact Nat.min_le_left _ _
  · exact (Nat.min_le_left _ _).trans hb

/-- The trim, the weights and the profile values that a composition has latched are in their ranges. -/
structure Latched.Bright (x : Latched) : Prop where
  trim : x.trim ≤ 63
  layers : ∀ l ∈ x.layers.toList, l.weight ≤ 128
  profiles : ∀ y ∈ x.profiles.toList, ∀ z, y = some z → z.atMost 255

theorem Latched.Bright.copyRow {x : Latched} (h : x.Bright) (slot : Nat) (r : Row) :
    RowAtMost 255 (x.copyRow slot r) := by
  suffices (((x.profiles[slot]?).getD none).getD (TwoRows.zero 80)).atMost 255 from this r
  by_cases hs : slot < 4
  · rw [Vector.getElem?_eq_getElem hs, Option.getD_some]
    cases hy : x.profiles[slot] with
    | none => exact TwoRows.atMost_zero 80 255
    | some z => exact h.profiles _ (by simp) z hy
  · rw [Vector.getElem?_eq_none (Nat.not_lt.1 hs)]
    exact TwoRows.atMost_zero 80 255

theorem Latched.Bright.base_le {x : Latched} (h : x.Bright) (r : Row) (q : Nat) :
    (x.base r q).value ≤ 255 := by
  refine List.foldlRecOn (motive := fun b : Base => b.value ≤ 255) x.layers.toList _ (Nat.zero_le _)
    fun b hb l hl => ?_
  split
  · exact Base.combine_le _ hb
      ((contribution_le (h.layers l hl)).trans (interpolated_le (h.copyRow _ r) q))
  · exact hb

/-! ## Stage 4: the shades (R77) -/

theorem residual_le (snapshot : List ShadeEntry) (k : Side) (r : Row) (c : Nat) :
    residual snapshot k r c ≤ 255 := by
  refine List.foldlRecOn (motive := fun n : Nat => n ≤ 255) snapshot _ (Nat.le_refl _)
    fun n hn e _ => ?_
  split
  · exact (Nat.min_le_left _ _).trans hn
  · exact hn

/-- A shade makes no segment brighter. -/
theorem Latched.shaded_le (x : Latched) (k : Side) (r : Row) (c base : Nat) :
    x.shaded k r c base ≤ base := by
  unfold Latched.shaded
  split
  · have h : base * residual x.snapshot k r c ≤ base * 255 :=
      Nat.mul_le_mul_left base (residual_le ..)
    omega
  · exact Nat.le_refl base

/-! ## Stages 6 to 8: trim, width and rise (R79, R80) -/

theorem trimmed_le {trim i : Nat} (h : trim ≤ 63) : trimmed trim i ≤ i := by
  have hm : i * (trim + 1) ≤ i * 64 := Nat.mul_le_mul_left i (by omega)
  unfold trimmed
  omega

theorem widened_le {i : Nat} (h : i ≤ 255) : widened i ≤ 1023 := by
  unfold widened
  omega

theorem Latched.Bright.targetOutput_le {x : Latched} (h : x.Bright) (swivel : Int) (k : Side)
    (r : Row) (c : Nat) : x.targetOutput swivel k r c ≤ 1023 := by
  refine widened_le ((trimmed_le h.trim).trans ?_)
  split
  · exact Nat.zero_le _
  · exact (x.shaded_le k r c _).trans (h.base_le r _)

/-- The output of a segment is at most its target or what it was. -/
theorem Latched.segment_output_le (x : Latched) (swivel : Int) (k : Side) (r : Row) (c u : Nat) :
    (x.segment swivel k r c u).output ≤ x.targetOutput swivel k r c := by
  simp only [Latched.segment]
  split
  · exact Nat.le_refl _
  · exact Nat.min_le_left _ _

theorem Latched.Bright.rowOutputs {x : Latched} (h : x.Bright) (swivel : Int) (k : Side) (r : Row)
    (u : Vector Nat 48) : RowAtMost 1023 ((x.rowSegments swivel k r u).map Segment.output) := by
  intro v hv
  simp only [Latched.rowSegments, Vector.map_ofFn] at hv
  exact rowAtMost_ofFn (fun i => (x.segment_output_le ..).trans (h.targetOutput_le ..)) v hv

theorem Latched.Bright.lampRamp {x : Latched} (h : x.Bright) (swivel : Int) (k : Side)
    (u : TwoRows 48) : (x.lampRamp swivel k u).atMost 1023 :=
  TwoRows.atMost_of_rows (h.rowOutputs swivel k .lower u.lower) (h.rowOutputs swivel k .upper u.upper)

/-! ## Stage 9: the placement (R81) -/

theorem placeBank_atMost {m : Nat} {ramp : TwoRows 48} (reverse swap : Bool) (h : ramp.atMost m) :
    (placeBank reverse swap ramp).atMost m :=
  TwoRows.atMost_of_rows (rowAtMost_ofFn fun _ => RowAtMost.getD_le (h _) _)
    (rowAtMost_ofFn fun _ => RowAtMost.getD_le (h _) _)

end Machine

end Sys2Proof
end

section
/-! PROOF. The brightness in its range (R48, R57, R90, R102, R110): the values that a composition works from, and those that the banks and the flash hold. -/

namespace Sys2Proof.Machine

/-! ## The blocks -/

/-- The profile values are at most 255 and the weights at most 128. -/
def PatternMemory.Bright (m : PatternMemory) : Prop :=
  (∀ x ∈ m.store.toList, x.atMost 255) ∧ ∀ l ∈ m.layers.toList, l.weight ≤ 128

/-- The compare values of both banks are at most 1023. -/
def Lamp.Bright (l : Lamp) : Prop := l.bankA.values.atMost 1023 ∧ l.bankB.values.atMost 1023

/-- The compare values of the banks and of the flash are at most 1023. -/
def Output.Bright (o : Output) : Prop :=
  o.cycleFlashLevel ≤ 1023 ∧ ∀ k, (o.lamps.get k).Bright

/-- The ramp state is at most 1023, and the composition in flight has its inputs in range. -/
def Engine.Bright (e : Engine) : Prop :=
  (∀ k, (e.ramp.get k).atMost 1023) ∧ ∀ x, e.flight = some x → x.Bright

/-- The invariant in terms of the blocks. -/
theorem brightInv_iff (s : State) :
    BrightInv s ↔
      s.patterns.Bright ∧ s.beam.trim ≤ 63 ∧ s.params.flashLevel ≤ 1023 ∧ s.output.Bright ∧
        s.engine.Bright :=
  ⟨fun ⟨hstore, hlay, htrim, hlev, hcyc, hramp, ha, hb, hft, hfl, hfp⟩ =>
      ⟨⟨hstore, hlay⟩, htrim, hlev, ⟨hcyc, fun k => ⟨ha k, hb k⟩⟩,
        ⟨hramp, fun x hx => ⟨hft x hx, hfl x hx, hfp x hx⟩⟩⟩,
    fun ⟨⟨hstore, hlay⟩, htrim, hlev, ⟨hcyc, hbanks⟩, ⟨hramp, hf⟩⟩ =>
      ⟨hstore, hlay, htrim, hlev, hcyc, hramp, fun k => (hbanks k).1, fun k => (hbanks k).2,
        fun x hx => (hf x hx).trim, fun x hx => (hf x hx).layers, fun x hx => (hf x hx).profiles⟩⟩

/-! ## Pattern Memory (R48, R52, R57, R60) -/

theorem PatternMemory.Bright.slotRows {m : PatternMemory} (h : m.Bright) (slot : Nat) :
    (m.slotRows slot).atMost 255 := by
  unfold PatternMemory.slotRows
  by_cases hs : slot < 4
  · rw [Vector.getElem?_eq_getElem hs]
    exact h.1 _ (by simp)
  · rw [Vector.getElem?_eq_none (Nat.not_lt.1 hs)]
    exact TwoRows.atMost_zero 80 255

theorem PatternMemory.Bright.setRow {m : PatternMemory} (h : m.Bright) (slot : Nat) (r : Row)
    {v : Vector Nat 80} (hv : RowAtMost 255 v) : (m.setRow slot r v).Bright := by
  refine ⟨fun x hx => ?_, h.2⟩
  simp only [PatternMemory.setRow, Vector.mem_toList_iff, Vector.mem_iff_getElem] at hx
  obtain ⟨j, hj, rfl⟩ := hx
  rw [Vector.getElem_setIfInBounds]
  split
  · exact (h.slotRows slot).setRow r hv
  · exact h.1 _ (by simp)

/-- A character is a value of at most 255. -/
theorem writeValues_row_le (values : List Byte) (w : RowWrite) (h : RowAtMost 255 w.row) :
    RowAtMost 255 (writeValues values w).row := by
  induction values generalizing w with
  | nil => exact h
  | cons b rest ih =>
    unfold writeValues
    split
    · exact h
    · exact ih _ (h.setIfInBounds _ (Nat.le_of_lt_succ b.isLt))

/-- A session opened or closed is no part of the brightness. -/
theorem PatternMemory.Bright.with_session {m : PatternMemory} (h : m.Bright) (x : Option Session) :
    PatternMemory.Bright { m with session := x } := h

theorem PatternMemory.Bright.serveProfileData {s : State} (payload : List Byte)
    (h : s.patterns.Bright) : (s.serveProfileData payload).1.patterns.Bright := by
  unfold State.serveProfileData
  split
  · exact h
  · rename_i x _
    have hrow : RowAtMost 255 ((s.patterns.slotRows x.slot).row x.row) := h.slotRows x.slot x.row
    exact (h.setRow _ _ (writeValues_row_le _ _ hrow)).with_session _

theorem PatternMemory.Bright.serveProfileOpen {s : State} (payload : List Byte)
    (h : s.patterns.Bright) : (s.serveProfileOpen payload).1.patterns.Bright := by
  unfold State.serveProfileOpen
  split
  · split
    · exact h
    · exact h.with_session _
  · exact h

/-- A record's weight is clamped to 128 (R60). -/
theorem RawLayer.layer_weight {r : RawLayer} {l : Layer} (h : r.layer = some l) : l.weight ≤ 128 := by
  obtain ⟨op, -, rfl⟩ := Option.map_eq_some_iff.1 h
  exact Nat.min_le_left _ _

theorem checkRecords_weight {seen : List Nat} {rs : List RawLayer} {ls : List (Nat × Layer)}
    (h : checkRecords seen rs = some ls) : ∀ x ∈ ls, x.2.weight ≤ 128 := by
  induction rs generalizing seen ls with
  | nil =>
    cases h
    exact nofun
  | cons r rest ih =>
    unfold checkRecords at h
    split at h
    · cases h
    · split at h
      · rename_i l ls' hl hls
        cases h
        intro x hx
        obtain rfl | hx := List.mem_cons.1 hx
        · exact RawLayer.layer_weight hl
        · exact ih hls x hx
      · cases h

theorem writeRecords_weight {layers : Vector Layer 8} {rs : List (Nat × Layer)}
    (h : ∀ l ∈ layers.toList, l.weight ≤ 128) (hrs : ∀ x ∈ rs, x.2.weight ≤ 128) :
    ∀ l ∈ (writeRecords layers rs).toList, l.weight ≤ 128 := by
  refine List.foldlRecOn (motive := fun ls : Vector Layer 8 => ∀ l ∈ ls.toList, l.weight ≤ 128) rs _ h
    fun ls ih x hx l hl => ?_
  rw [Vector.mem_toList_iff, Vector.mem_iff_getElem] at hl
  obtain ⟨j, hj, rfl⟩ := hl
  rw [Vector.getElem_setIfInBounds]
  split
  · exact hrs x hx
  · exact ih _ (by simp)

theorem PatternMemory.Bright.serveRecipeWrite {s : State} (payload : List Byte)
    (h : s.patterns.Bright) : (s.serveRecipeWrite payload).1.patterns.Bright := by
  simp only [State.serveRecipeWrite]
  split
  · exact h
  · rename_i ls hls
    split
    · exact h
    · exact ⟨h.1, writeRecords_weight h.2 (checkRecords_weight hls)⟩

theorem patternMemory_reset_bright : PatternMemory.reset.Bright := by
  constructor
  · intro x hx
    simp only [PatternMemory.reset, Vector.toList_replicate, List.mem_replicate] at hx
    rw [hx.2]
    exact TwoRows.atMost_zero 80 255
  · intro l hl
    simp only [PatternMemory.reset, Vector.toList_replicate, List.mem_replicate] at hl
    rw [hl.2]
    exact Nat.zero_le _

theorem PatternMemory.Bright.resetnRise {s : State} (h : s.patterns.Bright) :
    s.resetnRise.patterns.Bright := by
  unfold State.resetnRise
  split
  · exact h
  · exact ⟨patternMemory_reset_bright.1, h.2⟩

/-- The profiles of the recipe copy are those of the store (R63). -/
theorem PatternMemory.Bright.recipeProfiles {m : PatternMemory} (h : m.Bright) :
    ∀ y ∈ m.recipeProfiles.toList, ∀ z, y = some z → z.atMost 255 := by
  intro y hy z hz
  simp only [PatternMemory.recipeProfiles, Vector.toList_ofFn, List.mem_ofFn] at hy
  obtain ⟨i, hi⟩ := hy
  rw [← hi] at hz
  split at hz
  · cases hz
    exact h.slotRows _
  · cases hz

/-! ## Parameters (R171, R172) -/

/-- A CONFIG_WRITE leaves no parameter above its range that was not above it before. -/
theorem writePairs_get_le (running : Bool) {x : Params} {q : Param} (pairs : List (Nat × Nat))
    (h : x.get q ≤ Config.paramMax q) :
    (writePairs running x pairs).1.get q ≤ Config.paramMax q := by
  induction pairs generalizing x with
  | nil => exact h
  | cons pair rest ih =>
    refine ih ?_
    unfold writePair
    split
    · exact h
    · rename_i a _
      split
      · exact h
      · by_cases ha : q = a
        · subst ha
          rw [Params.get_set_self]
          exact (clampParam_range _ _).2
        · rw [Params.get_set_of_ne _ _ ha]
          exact h

/-- Raising town_off leaves every other parameter. -/
theorem raiseTownOff_get (x : Params) {q : Param} (h : q ≠ .townOff) :
    (raiseTownOff x).get q = x.get q := by
  unfold raiseTownOff
  split
  · exact x.get_set_of_ne x.townOn h
  · rfl

/-- What a CONFIG_WRITE leaves in range, but for town_off, which follows town_on (R30). -/
theorem serveConfigWrite_get_le {s : State} {q : Param} (payload : List Byte) (hq : q ≠ .townOff)
    (h : s.params.get q ≤ Config.paramMax q) :
    (s.serveConfigWrite payload).1.params.get q ≤ Config.paramMax q := by
  simp only [State.serveConfigWrite, State.raise_params, raiseTownOff_get _ hq]
  exact writePairs_get_le _ _ h

/-! ## Lamps and banks (R102, R106, R114, R115) -/

theorem Lamp.Bright.bank {l : Lamp} (h : l.Bright) (i : BankId) : (l.bank i).values.atMost 1023 := by
  cases i
  · exact h.1
  · exact h.2

theorem Lamp.Bright.setBank {l : Lamp} (h : l.Bright) (i : BankId) {x : Bank}
    (hx : x.values.atMost 1023) : (l.setBank i x).Bright := by
  cases i
  · exact ⟨hx, h.2⟩
  · exact ⟨h.1, hx⟩

theorem Lamp.bright_darkened (l : Lamp) : l.darkened.Bright :=
  ⟨TwoRows.atMost_zero 48 1023, TwoRows.atMost_zero 48 1023⟩

theorem Lamp.Bright.latch {l : Lamp} (h : l.Bright) : l.latch.Bright := by
  unfold Lamp.latch
  split
  · exact h.setBank _ (h.bank _)
  · exact h

theorem Lamp.Bright.swap {l : Lamp} (h : l.Bright) : l.swap.Bright := by
  unfold Lamp.swap
  split <;> exact h

/-- What each lamp makes of itself. -/
theorem Output.Bright.map {o : Output} {f : Lamp → Lamp} (h : o.Bright)
    (hf : ∀ l : Lamp, l.Bright → (f l).Bright) : Output.Bright { o with lamps := o.lamps.map f } :=
  ⟨h.1, fun k => by simpa using hf _ (h.2 k)⟩

theorem Output.Bright.set {o : Output} {k : Side} {l : Lamp} (h : o.Bright) (hl : l.Bright) :
    Output.Bright { o with lamps := o.lamps.set k l } := by
  refine ⟨h.1, fun m => ?_⟩
  by_cases hm : m = k
  · subst hm
    simpa using hl
  · simpa [hm] using h.2 m

theorem Output.Bright.stopped {o : Output} (h : o.Bright) : o.stopped.Bright :=
  h.map fun l _ => l.bright_darkened

theorem Output.Bright.writeLamp {s : State} (x : LampSettings) (k : Side) (h : s.output.Bright) :
    (s.writeLamp x k).output.Bright := by
  simp only [State.writeLamp]
  split
  · exact h.set (h.2 k)
  · split
    · exact h.set (Lamp.bright_darkened _)
    · exact h.set (h.2 k)

theorem Output.Bright.terminalCount {s : State} (h : s.output.Bright)
    (hl : s.params.flashLevel ≤ 1023) : s.terminalCount.output.Bright := by
  unfold State.terminalCount
  split
  · exact h
  · exact ⟨hl, (h.map fun _ => Lamp.Bright.swap).2⟩

/-! ## The engine (R70, R80 to R85) -/

theorem Engine.bright_idle {e : Engine} (hr : ∀ k, e.ramp.get k = TwoRows.zero 48)
    (hf : e.flight = none) : e.Bright :=
  ⟨fun k => hr k ▸ TwoRows.atMost_zero 48 1023, fun x hx => by rw [hf] at hx; cases hx⟩

theorem Engine.Bright.dropLamp {e : Engine} (k : Side) (h : e.Bright) : (e.dropLamp k).Bright := by
  refine ⟨fun m => ?_, fun y hy => ?_⟩
  · by_cases hm : m = k
    · subst hm
      simpa [Engine.dropLamp] using TwoRows.atMost_zero 48 1023
    · simpa [Engine.dropLamp, hm] using h.1 m
  · obtain ⟨x, hx, rfl⟩ := Option.map_eq_some_iff.1 hy
    obtain ⟨ht, hl, hp⟩ := h.2 x hx
    exact ⟨ht, hl, hp⟩

/-- A composition begins on inputs that their owners hold in range. -/
theorem State.begunFlight_bright {s : State} (hm : s.patterns.Bright) (ht : s.beam.trim ≤ 63) :
    s.begunFlight.Bright :=
  ⟨by simpa using ht, by simpa using hm.2, by simpa using hm.recipeProfiles⟩

theorem State.rampAfter_atMost {s : State} {x : Latched} (swivel : Int) (k : Side)
    (he : s.engine.Bright) (hx : x.Bright) : (s.rampAfter x swivel k).atMost 1023 := by
  unfold State.rampAfter
  split
  · exact hx.lampRamp swivel k _
  · exact he.1 k

theorem State.lampAfter_bright {s : State} {x : Latched} (swivel : Int) (k : Side)
    (ho : s.output.Bright) (hx : x.Bright) : (s.lampAfter x swivel k).Bright := by
  simp only [State.lampAfter]
  split
  · exact (ho.2 k).setBank _ (placeBank_atMost _ _ (hx.lampRamp swivel k _))
  · exact ho.2 k

/-- The lamps after the completion of a composition. -/
theorem State.completeComposition_lamps {s : State} {x : Latched} (h : s.engine.flight = some x)
    (k : Side) :
    s.completeComposition.output.lamps.get k =
      s.lampAfter x (swivelAfter x.swivelRate x.target s.engine.swivel) k := by
  cases k <;> simp [State.completeComposition, h, PerSide.get]

/-- The ramp state after the completion of a composition. -/
theorem State.completeComposition_ramp {s : State} {x : Latched} (h : s.engine.flight = some x)
    (k : Side) :
    s.completeComposition.engine.ramp.get k =
      s.rampAfter x (swivelAfter x.swivelRate x.target s.engine.swivel) k := by
  cases k <;> simp [State.completeComposition, h, PerSide.get]

/-! ## Every step -/

/-- The invariant with its blocks named, as `KeptByEffects` reads it. -/
def BrightBlocks (s : State) : Prop :=
  s.patterns.Bright ∧ s.beam.trim ≤ 63 ∧ s.params.flashLevel ≤ 1023 ∧ s.output.Bright ∧
    s.engine.Bright

theorem BrightBlocks.frameStart {s : State} (h : BrightBlocks s) : BrightBlocks s.frameStart := by
  obtain ⟨hm, ht, hl, ho, he⟩ := h
  refine ⟨by simpa using hm, by simpa using ht, by simpa using hl, ?_⟩
  obtain ⟨-, e⟩ | ⟨-, e⟩ := s.frameStart_cases <;> rw [e]
  · refine ⟨by simpa [State.timed] using ho.map fun _ => Lamp.Bright.latch, ?_⟩
    rw [State.beginComposition_engine]
    refine ⟨he.1, fun x hx => ?_⟩
    cases hx
    exact State.begunFlight_bright (s := s.timed) hm ht
  · exact ⟨by simpa [State.timed] using ho, by simpa [State.timed, Engine.Bright] using he⟩

theorem BrightBlocks.completeComposition {s : State} (h : BrightBlocks s) :
    BrightBlocks s.completeComposition := by
  obtain ⟨hm, ht, hl, ho, he⟩ := h
  refine ⟨by simpa using hm, by simpa using ht, by simpa using hl, ?_⟩
  cases hf : s.engine.flight with
  | none => simpa only [State.completeComposition, hf] using ⟨ho, he⟩
  | some x =>
    have bright := he.2 x hf
    refine ⟨⟨?_, fun k => ?_⟩, fun k => ?_, fun y hy => ?_⟩
    · simpa [State.completeComposition, hf] using ho.1
    · rw [State.completeComposition_lamps hf]
      exact State.lampAfter_bright _ k ho bright
    · rw [State.completeComposition_ramp hf]
      exact State.rampAfter_atMost _ k he bright
    · simp [State.completeComposition, hf] at hy

theorem BrightBlocks.writeLamp {s : State} (x : LampSettings) (k : Side) (h : BrightBlocks s) :
    BrightBlocks (s.writeLamp x k) := by
  obtain ⟨hm, ht, hl, ho, he⟩ := h
  refine ⟨by simpa using hm, by simpa using ht, by simpa using hl, ho.writeLamp x k, ?_⟩
  obtain e | e := s.writeLamp_engine x k <;> rw [e]
  · exact he
  · exact he.dropLamp k

/-- A CAB stale event leaves the trim. -/
theorem State.freshnessExpiry_trim (s : State) (p : Port) :
    (s.freshnessExpiry p).beam.trim = s.beam.trim := by
  have lower (t : State) : t.lowerBeam.beam.trim = t.beam.trim := by
    unfold State.lowerBeam
    split <;> rfl
  unfold State.freshnessExpiry
  split
  · cases p <;> simp [State.tellDependents, State.shadesStale, State.motionStale, lower]
  · rfl

/-- A hard reset leaves every block in range. -/
theorem State.bright_hardReset (s : State) : BrightBlocks s.hardReset := by
  have he := Engine.bright_idle (e := Engine.reset) ramp_zero_get rfl
  have hlamps (k : Side) : (Output.reset.lamps.get k).Bright := by
    cases k <;> exact ⟨TwoRows.atMost_zero 48 1023, TwoRows.atMost_zero 48 1023⟩
  have ho : ({ Output.reset with lowReq := s.output.lowReq } : Output).Bright :=
    ⟨by simp [Output.reset, Config.paramDefault], hlamps⟩
  exact ⟨patternMemory_reset_bright, Nat.le_refl 63, Nat.le_refl 1023, ho, he⟩

/-- A session that closes by a CAB stale event leaves the store and the layers. -/
theorem PatternMemory.Bright.freshnessExpiry {s : State} (p : Port) (h : s.patterns.Bright) :
    (s.freshnessExpiry p).patterns.Bright := by
  unfold State.freshnessExpiry
  split
  · cases p
    · simpa [State.tellDependents, State.shadesStale] using h
    · simpa [State.tellDependents, State.motionStale] using h
    · simpa [State.tellDependents] using h.with_session none
  · exact h

theorem keptByEffects_bright :
    KeptByEffects fun s =>
      s.patterns.Bright ∧ s.beam.trim ≤ 63 ∧ s.params.flashLevel ≤ 1023 ∧ s.output.Bright ∧
        s.engine.Bright where
  mode s payload h := by
    obtain ⟨hm, ht, hl, ho, he⟩ := h
    refine ⟨by simpa using hm, ?_, by simpa using hl, by simpa using ho, by simpa using he⟩
    unfold State.serveMode
    split
    · exact Nat.min_le_left _ _
    · exact ht
  startRun s _ h := BrightBlocks.frameStart (by simpa [BrightBlocks] using h)
  stopRun s h := by
    obtain ⟨hm, ht, hl, ho, -⟩ := h
    have he := Engine.bright_idle (e := s.engine.stopped) ramp_zero_get rfl
    simpa using ⟨hm, ht, hl, ho.stopped, he⟩
  restartPart s h := by
    obtain ⟨hm, ht, hl, ho, -⟩ := h
    have he := Engine.bright_idle (e := s.engine.restarted) ramp_zero_get rfl
    simpa using ⟨hm.with_session none, ht, hl, ho.stopped, he⟩
  configWrite s payload h := by
    obtain ⟨hm, ht, hl, ho, he⟩ := h
    exact ⟨by simpa using hm, by simpa using ht,
      serveConfigWrite_get_le (q := .flashLevel) payload (by decide) hl, by simpa using ho,
      by simpa using he⟩
  lampControl := State.serveLampControl_keeps_of_writeLamp fun _ x k h => BrightBlocks.writeLamp x k h
  recipeWrite s payload h := by simpa [h.2] using h.1.serveRecipeWrite payload
  profileOpen s payload h := by simpa [h.2] using h.1.serveProfileOpen payload
  profileData s payload h := by simpa [h.2] using h.1.serveProfileData payload
  closeSession s h := by simpa using ⟨h.1.with_session none, h.2⟩
  freshnessExpiry s p h := by
    obtain ⟨hm, ht, hl, ho, he⟩ := h
    exact ⟨hm.freshnessExpiry p, by rwa [State.freshnessExpiry_trim], by simpa using hl,
      by simpa using ho, by simpa using he⟩
  frameTimerExpiry s h := by
    obtain ⟨-, e⟩ | ⟨-, e⟩ := s.frameTimerExpiry_cases <;> rw [e]
    · exact h
    · exact BrightBlocks.frameStart h
  completeComposition s h := BrightBlocks.completeComposition h
  terminalCount s h := by
    obtain ⟨hm, ht, hl, ho, he⟩ := h
    refine ⟨by simpa using hm, ?_, by simpa using hl, ho.terminalCount hl, by simpa using he⟩
    unfold State.terminalCount
    split <;> exact ht
  expireFlash _ h := h
  lowRequest _ _ h := h
  hardReset s _ := s.bright_hardReset
  resetnRise s h := by simpa [h.2] using h.1.resetnRise

/-! ## What is shown (R110 to R112) -/

theorem limpValue_le (r : Row) (c : Nat) : limpValue r c ≤ 1023 := by
  unfold limpValue
  split
  · split <;> decide
  · decide

theorem Lamp.Bright.valueAt {l : Lamp} (h : l.Bright) (r : Row) (p : Nat) :
    l.activeBank.valueAt r p ≤ 1023 := RowAtMost.getD_le (h.bank _ r) p

/-- Whatever drives a line, its compare value is at most 1023. -/
theorem Output.Bright.driveCompare_le {s : State} (h : s.output.Bright) (k : Side) (r : Row) (p : Nat) :
    s.driveCompare k r p ≤ 1023 := by
  simp only [State.driveCompare]
  split
  · exact Nat.zero_le _
  · exact (h.2 k).valueAt r p
  · exact h.1
  · exact limpValue_le _ _
  · split
    · exact (h.2 k).valueAt r p
    · exact Nat.zero_le _

/-- Settles O44: each stage of a composition keeps its range, and what drives a line is a bank, the flash level or the LIMP pattern. -/
theorem stepsKeepTheBrightnessInRange : Obligations.StepsKeepTheBrightnessInRange := by
  intro s t hs ht
  rw [brightInv_iff] at hs
  have h := keptByEffects_bright.step (fun _ _ h => h) hs ht
  exact ⟨(brightInv_iff t).2 h, h.2.2.2.1.driveCompare_le⟩

end Sys2Proof.Machine
end

section
/-! PROOF. The edit interlock (R49 to R55, R59): a session that is open has its place in range, its slot to itself and a fresh CAB port. -/

namespace Sys2Proof.Machine

/-! ## The session -/

/-- An open session has its slot, pointer and end mark in range, no enabled layer on its slot and a CAB port of freshness `fresh` that is FRESH. -/
def PatternMemory.Interlocked (m : PatternMemory) (fresh : Bool) : Prop :=
  ∀ x, m.session = some x →
    x.slot ≤ 3 ∧ x.pointer ≤ 79 ∧ (x.endMark = true → x.pointer = 79) ∧
      m.slotInUse x.slot = false ∧ fresh = true

theorem PatternMemory.interlocked_of_closed {m : PatternMemory} (h : m.session = none) (fresh : Bool) :
    m.Interlocked fresh := fun x hx => by
  rw [h] at hx
  cases hx

/-- A FRESH port is as good as any. -/
theorem PatternMemory.Interlocked.of_fresh {m : PatternMemory} {fresh : Bool}
    (h : m.Interlocked fresh) : m.Interlocked true := fun x hx => by
  obtain ⟨hslot, hptr, hend, huse, -⟩ := h x hx
  exact ⟨hslot, hptr, hend, huse, rfl⟩

/-- Which slots are in use depends on the layers alone. -/
theorem PatternMemory.slotInUse_congr {m n : PatternMemory} (h : n.layers = m.layers) (slot : Nat) :
    n.slotInUse slot = m.slotInUse slot := by
  simp only [PatternMemory.slotInUse, h]

/-! ## PROFILE_OPEN (R51) -/

/-- Where the checks of PROFILE_OPEN pass, the slot exists and is in no layer's use, and the CAB port is FRESH. -/
theorem State.checkOpen_ok {s : State} {slot rowC : Nat} {r : Row} (h : s.checkOpen slot rowC = .ok r) :
    slot ≤ 3 ∧ s.ports.cab.fresh = true ∧ s.patterns.slotInUse slot = false := by
  unfold State.checkOpen at h
  split at h
  · cases h
  · split at h
    · cases h
    · split at h
      · cases h
      · split at h
        · cases h
        · split at h
          · cases h
          · rename_i hslot hfresh _ huse
            exact ⟨by omega, by simpa using hfresh, by simpa using huse⟩

theorem PatternMemory.Interlocked.serveProfileOpen {s : State} (payload : List Byte)
    (h : s.patterns.Interlocked s.ports.cab.fresh) :
    (s.serveProfileOpen payload).1.patterns.Interlocked s.ports.cab.fresh := by
  unfold State.serveProfileOpen
  split
  · split
    · exact h
    · rename_i hok
      obtain ⟨hslot, hfresh, huse⟩ := State.checkOpen_ok hok
      intro x hx
      cases hx
      exact ⟨hslot, Nat.min_le_left _ _, nofun, huse, hfresh⟩
  · exact h

/-! ## PROFILE_DATA (R52, R53) -/

theorem writeValues_sound (values : List Byte) {w : RowWrite} (h : w.Sound) :
    (writeValues values w).Sound := by
  induction values generalizing w with
  | nil => exact h
  | cons b rest ih =>
    rw [writeValues_cons]
    split
    · exact h
    · exact ih (w.put_sound b h)

theorem PatternMemory.Interlocked.serveProfileData {s : State} {fresh : Bool} (payload : List Byte)
    (h : s.patterns.Interlocked fresh) : (s.serveProfileData payload).1.patterns.Interlocked fresh := by
  unfold State.serveProfileData
  split
  · exact h
  · rename_i x hx
    obtain ⟨hslot, hptr, hend, huse, hfresh⟩ := h x hx
    intro y hy
    cases hy
    have hw := writeValues_sound payload
      (w := ⟨(s.patterns.slotRows x.slot).row x.row, x.pointer, x.endMark, 0⟩) ⟨hptr, hend⟩
    exact ⟨hslot, hw.1, hw.2, huse, hfresh⟩

/-! ## RECIPE_WRITE (R50, R59) -/

/-- Layers that are not enabled on a slot, written over such layers, leave the slot to itself. -/
theorem writeRecords_slotInUse {m : PatternMemory} {rs : List (Nat × Layer)} {slot : Nat}
    (h : m.slotInUse slot = false) (hrs : ∀ x ∈ rs, (x.2.enabled && x.2.slot == slot) = false) :
    PatternMemory.slotInUse { m with layers := writeRecords m.layers rs } slot = false := by
  have free (v : Vector Layer 8) :
      PatternMemory.slotInUse { m with layers := v } slot = false ↔
        ∀ l ∈ v.toList, (l.enabled && l.slot == slot) = false := by
    simp only [PatternMemory.slotInUse, List.any_eq_false, Bool.not_eq_true]
  rw [free]
  refine List.foldlRecOn
    (motive := fun v : Vector Layer 8 => ∀ l ∈ v.toList, (l.enabled && l.slot == slot) = false) rs _
    ((free m.layers).1 h) fun v ih x hx l hl => ?_
  rw [Vector.mem_toList_iff, Vector.mem_iff_getElem] at hl
  obtain ⟨j, hj, rfl⟩ := hl
  rw [Vector.getElem_setIfInBounds]
  split
  · exact hrs x hx
  · exact ih _ (by simp)

theorem PatternMemory.Interlocked.serveRecipeWrite {s : State} {fresh : Bool} (payload : List Byte)
    (h : s.patterns.Interlocked fresh) : (s.serveRecipeWrite payload).1.patterns.Interlocked fresh := by
  simp only [State.serveRecipeWrite]
  split
  · exact h
  · rename_i ls _
    split
    · exact h
    · rename_i hbars
      intro x hx
      replace hx : s.patterns.session = some x := hx
      obtain ⟨hslot, hptr, hend, huse, hfresh⟩ := h x hx
      refine ⟨hslot, hptr, hend, writeRecords_slotInUse huse fun y hy => ?_, hfresh⟩
      have hnot := List.any_eq_false.1 (Bool.not_eq_true _ ▸ hbars) y hy
      simpa [sessionBars, hx] using hnot

/-! ## Every step -/

/-- Freshness of the CAB port after a write of a port that leaves its freshness. -/
theorem State.onPort_cab_fresh {f : PortState → PortState} (hf : ∀ x, (f x).fresh = x.fresh) (p : Port)
    (s : State) : (s.onPort p f).ports.cab.fresh = s.ports.cab.fresh := by
  cases p
  · rfl
  · rfl
  · exact hf _

/-- The freshness of the CAB port, seen without its marks. -/
theorem cab_fresh_link (x : PerPort PortState) : (x.map PortState.link).cab.fresh = x.cab.fresh := rfl

theorem PatternMemory.Interlocked.freshnessExpiry {s : State} (p : Port)
    (h : s.patterns.Interlocked s.ports.cab.fresh) :
    (s.freshnessExpiry p).patterns.Interlocked (s.freshnessExpiry p).ports.cab.fresh := by
  have other (p : Port) (hp : p ≠ .cab) :
      (s.freshnessExpiry p).patterns = s.patterns ∧
        ((s.freshnessExpiry p).ports.map PortState.link).cab = (s.ports.map PortState.link).cab := by
    rw [State.freshnessExpiry_links]
    unfold State.freshnessExpiry
    cases p
    · split <;> simp [State.tellDependents, State.shadesStale, PerPort.set]
    · split <;> simp [State.tellDependents, State.motionStale, PerPort.set]
    · exact absurd rfl hp
  by_cases hp : p = .cab
  · subst hp
    unfold State.freshnessExpiry
    split
    · exact interlocked_of_closed (by simp [State.tellDependents]) _
    · exact h
  · obtain ⟨hm, hl⟩ := other p hp
    rw [hm, ← cab_fresh_link, hl]
    exact h

theorem keptByEffects_interlocked :
    KeptByEffects fun s => s.patterns.Interlocked (s.ports.map PortState.link).cab.fresh where
  onPort s p f hf h := by
    rw [cab_fresh_link] at h ⊢
    rwa [State.onPort_cab_fresh fun x => (hf x).1]
  refresh s p h := by
    cases p
    · simpa [PerPort.set] using h
    · simpa [PerPort.set] using h
    · simpa [PerPort.set, PortState.refreshed, PortState.link] using h.of_fresh
  restartPart s _ := PatternMemory.interlocked_of_closed (by simp) _
  recipeWrite s payload h := by simpa using h.serveRecipeWrite payload
  profileOpen s payload h := by simpa [cab_fresh_link] using PatternMemory.Interlocked.serveProfileOpen payload h
  profileData s payload h := by simpa using h.serveProfileData payload
  closeSession s _ := PatternMemory.interlocked_of_closed (by simp) _
  freshnessExpiry s p h := PatternMemory.Interlocked.freshnessExpiry p h
  hardReset s _ := PatternMemory.interlocked_of_closed rfl _
  resetnRise s h := by
    intro x hx
    have hlayers : s.resetnRise.patterns.layers = s.patterns.layers := by simp
    obtain ⟨hslot, hptr, hend, huse, hfresh⟩ := h x (by simpa using hx)
    exact ⟨hslot, hptr, hend, (PatternMemory.slotInUse_congr hlayers _).trans huse, by simpa using hfresh⟩
  endOfBoot s h := by
    have hfresh :
        (s.endOfBoot.ports.map PortState.link).cab.fresh =
          (s.ports.map PortState.link).cab.fresh := by
      rw [State.endOfBoot_links]
      split <;> rfl
    simpa [hfresh] using h

/-- Settles O38: a session opens on a free slot with the CAB port FRESH, no RECIPE_WRITE that would enable a layer on its slot passes, and the port's loss closes it. -/
theorem stepsKeepTheEditInterlock : Obligations.StepsKeepTheEditInterlock :=
  fun _ _ hs ht => keptByEffects_interlocked.step (fun _ _ h => h) hs ht

end Sys2Proof.Machine
end

section
/-! PROOF. The ports' accounts (R147, R150, R152, R153): every well-formed frame is answered or dropped, and the timers of a port run with its receiver and its freshness. -/

namespace Sys2Proof.Machine

/-! ## The account of a port -/

/-- What a port keeps of its frames: receiver and gap timer, request slot, reply queue and tally, without its marks, its error counters and its freshness. -/
def PortState.account (x : PortState) : PortState :=
  { x.link with
    settling := false, gapErrors := 0, lengthErrors := 0, crcErrors := 0, dropped := 0
    fresh := false, freshTimer := none }

@[simp] theorem PortState.account_link (x : PortState) : x.link.account = x.account := rfl

/-- The slot free, at most two replies, every well-formed frame accounted for, and the gap timer running outside HUNT. -/
structure PortState.Accounted (x : PortState) : Prop where
  slot_free : x.slot = none
  queue : x.replies.length ≤ 2
  sum : x.tally.received = x.tally.sent + x.replies.length + x.tally.dropped
  gap : x.gapTimer = true ↔ x.receiver ≠ .hunt

/-- The freshness timer runs exactly while the port is FRESH. -/
def PortState.Timed (x : PortState) : Prop := x.freshTimer.isSome = x.fresh

theorem portWf_iff (x : PortState) : PortWf x ↔ x.Accounted ∧ x.Timed :=
  ⟨fun ⟨hs, hq, ha, hg, ht⟩ => ⟨⟨hs, hq, ha, hg⟩, ht⟩, fun ⟨⟨hs, hq, ha, hg⟩, ht⟩ => ⟨hs, hq, ha, hg, ht⟩⟩

/-- Ports with the same account are accounted for together. -/
theorem PortState.Accounted.congr {x y : PortState} (h : x.Accounted) (e : y.account = x.account) :
    y.Accounted := by
  obtain ⟨hs, hq, ha, hg⟩ := h
  simp only [PortState.account, PortState.link, PortState.mk.injEq] at e
  obtain ⟨er, eg, -, es, eq, -, -, -, -, -, -, -, -, et⟩ := e
  exact ⟨es ▸ hs, eq ▸ hq, by rw [et, eq]; exact ha, by rw [eg, er]; exact hg⟩

/-! ## The owners' answers leave every account -/

/-- Every port's account is that of the state before. -/
def State.SameAccounts (s t : State) : Prop :=
  ∀ q, (t.ports.get q).account = (s.ports.get q).account

theorem State.SameAccounts.trans {s t u : State} (h : s.SameAccounts t) (h' : t.SameAccounts u) :
    s.SameAccounts u := fun q => (h' q).trans (h q)

/-- Marks are no part of an account. -/
theorem State.sameAccounts_of_links {s t : State}
    (h : t.ports.map PortState.link = s.ports.map PortState.link) : s.SameAccounts t := by
  intro q
  have hq : (t.ports.get q).link = (s.ports.get q).link := by
    simpa using congrArg (fun x => PerPort.get x q) h
  rw [← PortState.account_link, hq, PortState.account_link]

/-- A write of a port that leaves its account. -/
theorem State.sameAccounts_onPort {f : PortState → PortState} (p : Port) (s : State)
    (h : ∀ x, (f x).account = x.account) : s.SameAccounts (s.onPort p f) := by
  intro q
  by_cases hq : q = p
  · subst hq
    simpa using h _
  · simp [hq]

/-- A port written without a change of its account, and the ports marked beside. -/
theorem State.sameAccounts_of_links_set {s t : State} {x : PortState} (p : Port)
    (hx : x.account = (s.ports.get p).account)
    (e : t.ports.map PortState.link = (s.ports.map PortState.link).set p x.link) :
    s.SameAccounts t := by
  intro q
  have hq : (t.ports.get q).link = ((s.ports.map PortState.link).set p x.link).get q := by
    rw [← e, PerPort.get_map]
  rw [← PortState.account_link, hq]
  by_cases hqp : q = p
  · subst hqp
    rw [PerPort.get_set_self, PortState.account_link, hx]
  · rw [PerPort.get_set_of_ne _ _ hqp, PerPort.get_map, PortState.account_link]

/-- A refresh is no part of an account. -/
theorem State.sameAccounts_refresh (p : Port) (s : State) : s.SameAccounts (s.refresh p) :=
  State.sameAccounts_of_links_set (x := (s.ports.get p).refreshed (s.params.timeout p)) p rfl (by simp)

theorem State.sameAccounts_serveRunControl (payload : List Byte) (s : State) :
    s.SameAccounts (s.serveRunControl payload).1 := by
  rcases s.serveRunControl_cases payload with e | ⟨-, -, -, e⟩ | ⟨-, -, e⟩ | ⟨-, e⟩ <;> rw [e]
  · exact State.sameAccounts_of_links rfl
  · exact State.sameAccounts_of_links (by simp)
  · exact State.sameAccounts_of_links (by simp)
  · exact State.sameAccounts_of_links (by simp)

theorem State.sameAccounts_serveStatusClear (p : Port) (payload : List Byte) (s : State) :
    s.SameAccounts (s.serveStatusClear p payload).1 := by
  unfold State.serveStatusClear
  split
  · split
    · exact s.sameAccounts_onPort (f := PortState.clearSticky) p fun _ => rfl
    · exact s.sameAccounts_onPort (f := PortState.clearStatus) p fun _ => rfl
    · exact State.sameAccounts_of_links rfl
  · exact State.sameAccounts_of_links rfl

/-- Whatever its owner makes of a request, no account changes. -/
theorem State.sameAccounts_serve (v : StatusOwner → State) (k : RequestKind) (p : Port)
    (payload : List Byte) (s : State) : s.SameAccounts (s.serve v k p payload).1 := by
  cases k with
  | shadeList => exact (s.sameAccounts_refresh p).trans (State.sameAccounts_of_links (by simp [State.serve]))
  | motion => exact (s.sameAccounts_refresh p).trans (State.sameAccounts_of_links (by simp [State.serve]))
  | mode => exact (s.sameAccounts_refresh p).trans (State.sameAccounts_of_links (by simp [State.serve]))
  | runControl => exact s.sameAccounts_serveRunControl payload
  | statusClear => exact s.sameAccounts_serveStatusClear p payload
  | noticeControl =>
    refine State.sameAccounts_of_links_set (x := s.ports.get p) p rfl ?_
    simp only [State.serve, State.serveNoticeControl, State.raise_ports, State.onPort_ports,
      PerPort.map_set]
    rfl
  | _ => exact State.sameAccounts_of_links (by simp [State.serve])

theorem State.sameAccounts_dispatch (v : StatusOwner → State) (p : Port) (f : Frame) (s : State) :
    s.SameAccounts (s.dispatch v p f).1 := by
  unfold State.dispatch
  split
  · exact State.sameAccounts_of_links rfl
  · split
    · exact State.sameAccounts_of_links rfl
    · split
      · exact State.sameAccounts_of_links rfl
      · exact s.sameAccounts_serve v _ p f.payload

/-! ## A frame from its arrival to its reply -/

/-- Every port is accounted for. -/
def State.Accounted (s : State) : Prop := ∀ q, (s.ports.get q).Accounted

theorem State.Accounted.congr {s t : State} (h : s.Accounted) (e : s.SameAccounts t) : t.Accounted :=
  fun q => (h q).congr (e q)

theorem State.Accounted.of_links {s t : State} (h : s.Accounted)
    (e : t.ports.map PortState.link = s.ports.map PortState.link) : t.Accounted :=
  h.congr (State.sameAccounts_of_links e)

theorem State.Accounted.onPort {s : State} {f : PortState → PortState} (h : s.Accounted) (p : Port)
    (hf : (f (s.ports.get p)).Accounted) : (s.onPort p f).Accounted := by
  intro q
  by_cases hq : q = p
  · subst hq
    simpa using hf
  · simpa [hq] using h q

theorem PortState.Accounted.receive {x : PortState} (h : x.Accounted) (r : Receiver) :
    (x.receive r).Accounted := ⟨h.slot_free, h.queue, h.sum, by simp [PortState.receive]⟩

/-- A frame that finds the queue full is received and dropped. -/
theorem PortState.Accounted.drop {x : PortState} (h : x.Accounted) : x.frameIn.drop.Accounted := by
  refine ⟨h.slot_free, h.queue, ?_, by simp [PortState.drop, PortState.frameIn, PortState.receive]⟩
  have hsum := h.sum
  simp only [PortState.drop, PortState.frameIn, PortState.receive]
  omega

/-- A frame that finds a place is received, and its reply takes the place. -/
theorem PortState.Accounted.placeReply {x y : PortState} {f : Frame} (r : List Byte) (h : x.Accounted)
    (hroom : x.frameIn.places < 2) (e : y.account = { x.frameIn with slot := some f }.account) :
    (y.placeReply f r).Accounted := by
  obtain ⟨hs, hq, ha, hg⟩ := h
  simp only [PortState.account, PortState.link, PortState.frameIn, PortState.receive,
    PortState.mk.injEq] at e
  obtain ⟨er, eg, -, -, eq, -, -, -, -, -, -, -, -, et⟩ := e
  have hlen : x.replies.length < 2 := by
    simpa [PortState.places, PortState.frameIn, PortState.receive, hs] using hroom
  refine ⟨rfl, ?_, ?_, ?_⟩
  · simp only [PortState.placeReply, List.length_append, List.length_singleton, eq]
    omega
  · simp only [PortState.placeReply, List.length_append, List.length_singleton, eq, et]
    omega
  · simp [PortState.placeReply, er, eg]

theorem State.Accounted.takeFrameReading {s : State} (h : s.Accounted) (v : StatusOwner → State)
    (p : Port) (f : Frame) : (s.takeFrameReading v p f).Accounted := by
  by_cases hb : s.device = .boot
  · simpa only [State.takeFrameReading, if_pos hb] using h
  · by_cases hfull : Config.queueCapacity ≤ ((s.onPort p PortState.frameIn).ports.get p).places
    · simp only [State.takeFrameReading, if_neg hb, if_pos hfull]
      intro q
      by_cases hq : q = p
      · subst hq
        simpa using (h q).drop
      · simpa [hq] using h q
    · have hroom : (s.ports.get p).frameIn.places < 2 := by
        simpa [Config.queueCapacity] using hfull
      simp only [State.takeFrameReading, if_neg hb, if_neg hfull]
      have same := State.sameAccounts_dispatch v p f
        ((s.onPort p PortState.frameIn).onPort p fun x => { x with slot := some f })
      intro q
      by_cases hq : q = p
      · subst hq
        rw [State.onPort_ports, PerPort.get_set_self]
        exact (h q).placeReply _ hroom ((same q).trans (by simp))
      · rw [State.onPort_ports, PerPort.get_set_of_ne _ _ hq]
        exact (h q).congr ((same q).trans (by simp [hq]))

/-! ## Every command -/

theorem PortState.Accounted.replySent {x : PortState} (h : x.Accounted) : x.replySent.Accounted := by
  obtain ⟨hs, hq, ha, hg⟩ := h
  unfold PortState.replySent
  split
  · exact ⟨hs, hq, ha, hg⟩
  · rename_i r rest hr
    rw [hr, List.length_cons] at hq ha
    have hsum : x.tally.received = x.tally.sent + 1 + rest.length + x.tally.dropped := by omega
    exact ⟨hs, Nat.le_of_succ_le hq, hsum, hg⟩

/-- The error counters are no part of an account, so a fault is a return to HUNT. -/
theorem State.Accounted.fault {s : State} {f : PortState → PortState} (h : s.Accounted) (p : Port)
    (hf : ∀ x : PortState, (f x).account = (x.receive .hunt).account) : (s.onPort p f).Accounted :=
  h.onPort p (((h p).receive .hunt).congr (hf _))

theorem State.Accounted.assemble {s : State} (h : s.Accounted) (v : StatusOwner → State) (p : Port)
    (c : Byte) : (s.assemble v p c).Accounted := by
  have move (r : Receiver) : (s.onPort p (PortState.receive r)).Accounted := h.onPort p ((h p).receive r)
  unfold State.assemble
  split
  · split
    · exact move _
    · exact h
  · exact move _
  · exact move _
  · split
    · exact h.fault p fun _ => rfl
    · split <;> exact move _
  · split <;> exact move _
  · exact move _
  · split
    · exact h.takeFrameReading v p _
    · exact h.fault p fun _ => rfl

theorem State.Accounted.takeCharacter {s : State} (h : s.Accounted) (p : Port) (c : Byte) :
    (s.takeCharacter p c).Accounted := by
  simp only [State.takeCharacter, State.takeCharacterReading]
  split
  · exact h
  · split
    · have hcount : State.Accounted { s with choices := s.choices + 1 } := h
      split
      · exact (hcount.fault (f := PortState.settled) p fun _ => rfl).assemble _ p c
      · exact hcount
    · exact h.assemble _ p c

theorem PortState.accounted_reset : PortState.reset.Accounted :=
  ⟨rfl, Nat.zero_le _, rfl, by simp [PortState.reset]⟩

theorem State.Accounted.freshnessExpiry {s : State} (h : s.Accounted) (p : Port) :
    (s.freshnessExpiry p).Accounted := by
  have e := s.freshnessExpiry_links p
  split at e
  · exact h.congr (State.sameAccounts_of_links_set (x := (s.ports.get p).staled) p rfl e)
  · exact h.of_links e

theorem State.Accounted.endOfBoot {s : State} (h : s.Accounted) : s.endOfBoot.Accounted := by
  have e := s.endOfBoot_links
  split at e
  · intro q
    have hq := congrArg (fun x => (PerPort.get x q).account) e
    exact (h q).congr (by simpa [PortState.account, PortState.settle, PortState.link] using hq)
  · exact h.of_links e

theorem State.Accounted.exec {i : Instr} {s t : State} (h : s.Accounted)
    (ht : Machine.exec i s = .next t) : t.Accounted := by
  cases hi : requestFrame i with
  | some x =>
    obtain ⟨p, f⟩ := x
    cases (exec_of_requestFrame s hi).symm.trans ht
    exact h.takeFrameReading _ p f
  | none =>
    cases i <;> simp only [requestFrame, reduceCtorEq] at hi <;> injection ht with ht <;> subst ht
    case lengthFault p len =>
      unfold State.takeLengthFault
      split
      · split
        · exact h.fault p fun _ => rfl
        · exact h
      · exact h
    case crcFault p c =>
      unfold State.takeCrcFault
      split
      · split
        · exact h.fault p fun _ => rfl
        · exact h
      · exact h
    case gapTimerExpiry p =>
      unfold State.gapExpiry
      split
      · exact h.fault p fun _ => rfl
      · exact h
    case replySent p => exact h.onPort p (h p).replySent
    case freshnessTimerExpiry p => exact h.freshnessExpiry p
    case hardReset =>
      intro q
      cases q <;> exact PortState.accounted_reset
    case endOfBoot => exact h.endOfBoot
    case characterReceived p c => exact h.takeCharacter p c
    all_goals exact h.of_links (by simp)

/-! ## The freshness timers -/

/-- Marks are no part of freshness. -/
theorem PortState.timed_link (x : PortState) : x.link.Timed ↔ x.Timed := Iff.rfl

/-- The timers of all ports, seen without their marks. -/
def PerPort.Timed (x : PerPort PortState) : Prop := ∀ q, (x.get q).Timed

theorem PerPort.Timed.set {x : PerPort PortState} (h : PerPort.Timed x) (p : Port) {y : PortState}
    (hy : y.Timed) : PerPort.Timed (x.set p y) := by
  intro q
  by_cases hq : q = p
  · subst hq
    simpa using hy
  · simpa [hq] using h q

theorem keptByEffects_timed : KeptByEffects fun s => PerPort.Timed (s.ports.map PortState.link) where
  onPort s p f hf h := by
    rw [State.onPort_ports, PerPort.map_set]
    refine h.set p ?_
    have hp : (s.ports.get p).Timed := by simpa [PortState.timed_link] using h p
    rwa [PortState.timed_link, PortState.Timed, (hf _).1, (hf _).2]
  refresh s p h := by simpa using h.set p (y := ((s.ports.get p).refreshed (s.params.timeout p)).link) rfl
  freshnessExpiry s p h := by
    rw [State.freshnessExpiry_links]
    split
    · exact h.set p rfl
    · exact h
  hardReset s _ := by
    intro q
    cases q <;> rfl
  endOfBoot s h := by
    rw [State.endOfBoot_links]
    split
    · intro q
      have hq := h q
      rw [PerPort.get_map] at hq ⊢
      exact hq
    · exact h

/-- Settles O18: a frame adds one to the frames received and one to the replies queued or the requests dropped, a reply sent moves from queued to sent, and the timers run with the receiver and the freshness. -/
theorem stepsKeepThePortsSound : Obligations.StepsKeepThePortsSound := by
  intro s t hs ht
  have accounted : s.Accounted := fun q => ((portWf_iff _).1 (hs q)).1
  have timed : PerPort.Timed (s.ports.map PortState.link) := fun q => by
    simpa [PortState.timed_link] using ((portWf_iff _).1 (hs q)).2
  have htimed := keptByEffects_timed.step (fun _ _ h => h) timed ht
  refine fun q => (portWf_iff _).2 ⟨?_, by simpa [PortState.timed_link] using htimed q⟩
  obtain ⟨-, rfl⟩ | ⟨c, rest, -, hc⟩ := step_cases ht
  · exact accounted q
  · exact State.Accounted.exec (s := { s with pending := rest }) accounted hc q

end Sys2Proof.Machine
end

section
/-! PROOF. The steps of a merge (R6 to R15): which objects are kept, which entry takes one, where one is placed, and the order of the table. -/

namespace Sys2Proof.Machine

/-! ## Step 1: validation (R6, R7) -/

/-- Which earlier ids there are is all that their list says. -/
theorem validateObject_congr {a b : List Nat} (o : RawObject) (h : o.id ∈ a ↔ o.id ∈ b) :
    validateObject a o = validateObject b o := by
  simp only [validateObject, h]

/-- One more object at the end of a list is ignored, or kept as the last. -/
theorem validateObjects_concat (seen : List Nat) (earlier : List RawObject) (o : RawObject) :
    validateObjects seen (earlier ++ [o]) =
      match validateObject (earlier.map RawObject.id ++ seen) o with
      | none =>
        { validateObjects seen earlier with ignored := (validateObjects seen earlier).ignored + 1 }
      | some x =>
        { objects := (validateObjects seen earlier).objects ++ [x]
          ignored := (validateObjects seen earlier).ignored
          clamped :=
            (validateObjects seen earlier).clamped || decide (128 < o.left + o.width) } := by
  induction earlier generalizing seen with
  | nil =>
    simp only [List.nil_append, validateObjects, List.map_nil]
    cases validateObject seen o <;> simp
  | cons e rest ih =>
    have hmem :
        validateObject ((e :: rest).map RawObject.id ++ seen) o =
          validateObject (rest.map RawObject.id ++ (e.id :: seen)) o :=
      validateObject_congr o (by simp [or_left_comm])
    simp only [List.cons_append, validateObjects, ih, hmem]
    cases validateObject (rest.map RawObject.id ++ e.id :: seen) o <;>
      cases validateObject seen e <;> simp [Bool.or_assoc]

/-- A valid object comes from an object of the list. -/
theorem validateObject_eq_some {seen : List Nat} {o : RawObject} {x : ShadeObject}
    (h : validateObject seen o = some x) :
    o.id ≠ 0 ∧ o.width ≠ 0 ∧ o.id ∉ seen ∧ x.id = o.id ∧ x.left = o.left ∧
      x.right = min 128 (o.left + o.width) ∧ x.v = o.v := by
  unfold validateObject at h
  split at h
  · cases h
  · rename_i hn
    simp only [not_or] at hn
    split at h
    · cases h
      exact ⟨hn.1, hn.2.1, hn.2.2, rfl, rfl, rfl, rfl⟩
    · cases h

/-- Each object of a list is valid or ignored. -/
theorem validateObjects_count (seen : List Nat) (os : List RawObject) :
    (validateObjects seen os).objects.length + (validateObjects seen os).ignored = os.length := by
  induction os generalizing seen with
  | nil => rfl
  | cons o rest ih =>
    have h := ih (o.id :: seen)
    simp only [validateObjects]
    split <;> simp only [List.length_cons] <;> omega

/-- The valid objects have ids of their own, none of them an earlier one. -/
theorem validateObjects_ids (seen : List Nat) (os : List RawObject) :
    ((validateObjects seen os).objects.map ShadeObject.id).Nodup ∧
      ∀ x ∈ (validateObjects seen os).objects, x.id ∉ seen := by
  induction os generalizing seen with
  | nil => exact ⟨List.nodup_nil, nofun⟩
  | cons o rest ih =>
    obtain ⟨hnd, hseen⟩ := ih (o.id :: seen)
    have hseen' : ∀ x ∈ (validateObjects (o.id :: seen) rest).objects, x.id ∉ seen := fun x hx hm =>
      hseen x hx (List.mem_cons_of_mem _ hm)
    simp only [validateObjects]
    split
    · exact ⟨hnd, hseen'⟩
    · rename_i x hx
      obtain ⟨-, -, hnot, hid, -⟩ := validateObject_eq_some hx
      refine ⟨List.nodup_cons.2 ⟨fun hm => ?_, hnd⟩, ?_⟩
      · obtain ⟨y, hy, hyx⟩ := List.mem_map.1 hm
        exact hseen y hy (by simp [hyx, hid])
      · intro y hy
        obtain rfl | hy := List.mem_cons.1 hy
        · rwa [hid]
        · exact hseen' y hy

/-! ## Widening (R9) -/

theorem ShadeRows.widen_eq (a b : ShadeRows) :
    a.widen b = if a = .both ∨ b = .both then .both else .upper := by
  cases a <;> cases b <;> rfl

theorem ShadeLamps.widen_eq (a b : ShadeLamps) : a.widen b = if a = b then b else .both := by
  cases a <;> cases b <;> rfl

theorem RoadClass.widen_eq (a b : RoadClass) :
    a.widen b =
      if a = .oncoming ∨ b = .oncoming then .oncoming
      else if a = .preceding ∨ b = .preceding then .preceding else .sign := by
  cases a <;> cases b <;> rfl

theorem ShadeRows.widen_includes {a b : ShadeRows} {r : Row}
    (h : a.includes r = true ∨ b.includes r = true) : (a.widen b).includes r = true := by
  revert h
  cases a <;> cases b <;> cases r <;> decide

theorem ShadeLamps.widen_includes {a b : ShadeLamps} {k : Side}
    (h : a.includes k = true ∨ b.includes k = true) : (a.widen b).includes k = true := by
  revert h
  cases a <;> cases b <;> cases k <;> decide

/-! ## Step 2: matching (R8, R9) -/

/-- The ids that reach an entry (R8). -/
def ShadeEntry.ids (e : ShadeEntry) : List Nat := e.id :: e.aliases

theorem ShadeEntry.reachedBy_iff (id : Nat) (e : ShadeEntry) :
    e.reachedBy id = true ↔ id ∈ e.ids := by
  simp only [ShadeEntry.reachedBy, ShadeEntry.ids, Bool.or_eq_true, beq_iff_eq, List.contains_iff_mem,
    List.mem_cons]
  exact or_congr_left eq_comm

/-- An entry of the working order that an object has matched (R8, R9). -/
def WorkEntry.matchedBy (hold : Nat) (o : ShadeObject) (w : WorkEntry) : WorkEntry :=
  { entry := if w.matched then w.entry.combine hold o else w.entry.take hold o, matched := true }

/-- A match changes no id. -/
theorem WorkEntry.matchedBy_ids (hold : Nat) (o : ShadeObject) (w : WorkEntry) :
    (w.matchedBy hold o).entry.ids = w.entry.ids := by
  unfold WorkEntry.matchedBy
  cases w.matched <;> rfl

/-- An object reaches no entry, or the first entry that it reaches is matched. -/
theorem matchObject_cases (hold : Nat) (o : ShadeObject) (ws : List WorkEntry) :
    ((∀ w ∈ ws, o.id ∉ w.entry.ids) ∧ matchObject hold o ws = none) ∨
      ∃ before w after,
        ws = before ++ w :: after ∧ (∀ x ∈ before, o.id ∉ x.entry.ids) ∧ o.id ∈ w.entry.ids ∧
          matchObject hold o ws = some (before ++ w.matchedBy hold o :: after) := by
  induction ws with
  | nil => exact .inl ⟨nofun, rfl⟩
  | cons w rest ih =>
    by_cases hw : o.id ∈ w.entry.ids
    · refine .inr ⟨[], w, rest, rfl, nofun, hw, ?_⟩
      simp only [matchObject, (ShadeEntry.reachedBy_iff _ _).2 hw, if_true]
      rfl
    · have hno : ¬w.entry.reachedBy o.id = true := mt (ShadeEntry.reachedBy_iff _ _).1 hw
      simp only [matchObject, if_neg hno]
      obtain ⟨hrest, e⟩ | ⟨before, x, after, rfl, hbefore, hx, e⟩ := ih
      · exact .inl ⟨List.forall_mem_cons.2 ⟨hw, hrest⟩, by rw [e]; rfl⟩
      · exact .inr ⟨w :: before, x, after, rfl, List.forall_mem_cons.2 ⟨hw, hbefore⟩, hx, by rw [e]; rfl⟩

/-- An object that reaches no entry is left for step 4. -/
theorem matchObjects_of_none {hold : Nat} {o : ShadeObject} {ws : List WorkEntry}
    (rest : List ShadeObject) (h : matchObject hold o ws = none) :
    matchObjects hold (o :: rest) ws =
      ((matchObjects hold rest ws).1, o :: (matchObjects hold rest ws).2) := by
  simp only [matchObjects, h]

/-- An object that reaches an entry goes on with it matched. -/
theorem matchObjects_of_some {hold : Nat} {o : ShadeObject} {ws ws' : List WorkEntry}
    (rest : List ShadeObject) (h : matchObject hold o ws = some ws') :
    matchObjects hold (o :: rest) ws = matchObjects hold rest ws' := by
  simp only [matchObjects, h]

/-- The objects left for step 4 are some of the list, in its order. -/
theorem matchObjects_sublist (hold : Nat) (os : List ShadeObject) (ws : List WorkEntry) :
    (matchObjects hold os ws).2.Sublist os := by
  induction os generalizing ws with
  | nil => exact List.Sublist.refl _
  | cons o rest ih =>
    obtain ⟨-, e⟩ | ⟨_, _, _, -, -, -, e⟩ := matchObject_cases hold o ws
    · rw [matchObjects_of_none rest e]
      exact (ih ws).cons_cons o
    · rw [matchObjects_of_some rest e]
      exact (ih _).cons o

/-! ## Step 3: entries no longer reported (R10, R18) -/

theorem ShadeEntry.release_eq (hold : Nat) (e : ShadeEntry) :
    e.release hold =
      if e.state ≠ .active then some e
      else if hold = 0 ∨ e.cls = .sign then
        if e.v < 255 then some { e with state := .fading, hold := 0, veff := e.v } else none
      else some { e with state := .hold, hold := hold, veff := e.v } := by
  unfold ShadeEntry.release ShadeEntry.fade
  split <;> simp [*]

/-! ## Step 4: insertion, eviction and coalescing (R11 to R14) -/

/-- Where no entry is FADING there is no greatest Veff, and else it is that of a FADING entry and no less than any. -/
theorem greatestFading_cases (es : List ShadeEntry) :
    ((∀ e ∈ es, e.state ≠ .fading) ∧ greatestFading es = none) ∨
      ∃ n, greatestFading es = some n ∧ (∀ e ∈ es, e.state = .fading → e.veff ≤ n) ∧
        ∃ e ∈ es, e.state = .fading ∧ e.veff = n := by
  induction es with
  | nil => exact .inl ⟨nofun, rfl⟩
  | cons e rest ih =>
    by_cases he : e.state = .fading
    · obtain ⟨hno, hr⟩ | ⟨n, hr, hle, x, hx, hxf, hxn⟩ := ih
      · refine .inr ⟨e.veff, by simp [greatestFading, he, hr], ?_, e, List.mem_cons_self, he, rfl⟩
        rintro y hy hyf
        obtain rfl | hy := List.mem_cons.1 hy
        · exact Nat.le_refl _
        · exact absurd hyf (hno y hy)
      · refine .inr ⟨max e.veff n, by simp [greatestFading, he, hr], ?_, ?_⟩
        · rintro y hy hyf
          obtain rfl | hy := List.mem_cons.1 hy
          · exact Nat.le_max_left _ _
          · exact (hle y hy hyf).trans (Nat.le_max_right _ _)
        · obtain h | h := Nat.le_total e.veff n
          · exact ⟨x, List.mem_cons_of_mem _ hx, hxf, by omega⟩
          · exact ⟨e, List.mem_cons_self, he, by omega⟩
    · have hsame : greatestFading (e :: rest) = greatestFading rest := by
        cases hs : e.state with
        | fading => exact absurd hs he
        | active => simp [greatestFading, hs]
        | hold => simp [greatestFading, hs]
      rw [hsame]
      obtain ⟨hno, hr⟩ | ⟨n, hr, hle, x, hx, hxf, hxn⟩ := ih
      · exact .inl ⟨List.forall_mem_cons.2 ⟨he, hno⟩, hr⟩
      · refine .inr ⟨n, hr, List.forall_mem_cons.2 ⟨fun h => absurd h he, hle⟩, x,
          List.mem_cons_of_mem _ hx, hxf, hxn⟩

/-- The first FADING entry of Veff `n` is replaced. -/
theorem evict_append {n : Nat} {before after : List ShadeEntry} {e : ShadeEntry} (x : ShadeEntry)
    (hb : ∀ y ∈ before, ¬(y.state = .fading ∧ y.veff = n)) (he : e.state = .fading ∧ e.veff = n) :
    evict n x (before ++ e :: after) = before ++ x :: after := by
  induction before with
  | nil => simp only [List.nil_append, evict, if_pos he]
  | cons y rest ih =>
    obtain ⟨hy, hrest⟩ := List.forall_mem_cons.1 hb
    simp only [List.cons_append, evict, if_neg hy, ih hrest]

/-- The least gap of a table that is not empty is the gap of an entry and no more than any. -/
theorem leastGap_cases (o : ShadeObject) (es : List ShadeEntry) :
    (es = [] ∧ leastGap o es = none) ∨
      ∃ n, leastGap o es = some n ∧ (∀ e ∈ es, n ≤ gap o e) ∧ ∃ e ∈ es, gap o e = n := by
  induction es with
  | nil => exact .inl ⟨rfl, rfl⟩
  | cons e rest ih =>
    obtain ⟨rfl, hr⟩ | ⟨n, hr, hle, x, hx, hxn⟩ := ih
    · exact .inr ⟨gap o e, rfl, by simp, e, List.mem_cons_self, rfl⟩
    · refine .inr ⟨min (gap o e) n, by simp [leastGap, hr], ?_, ?_⟩
      · rintro y hy
        obtain rfl | hy := List.mem_cons.1 hy
        · exact Nat.min_le_left _ _
        · exact (Nat.min_le_right _ _).trans (hle y hy)
      · obtain h | h := Nat.le_total (gap o e) n
        · exact ⟨e, List.mem_cons_self, (Nat.min_eq_left h).symm⟩
        · exact ⟨x, List.mem_cons_of_mem _ hx, hxn.trans (Nat.min_eq_right h).symm⟩

/-- The object goes into the first entry at gap `n`. -/
theorem coalesceAt_append {hold n : Nat} {o : ShadeObject} {before after : List ShadeEntry}
    {e : ShadeEntry} (hb : ∀ y ∈ before, gap o y ≠ n) (he : gap o e = n) :
    coalesceAt hold n o (before ++ e :: after) = before ++ e.coalesce hold o :: after := by
  induction before with
  | nil => simp only [List.nil_append, coalesceAt, if_pos he]
  | cons y rest ih =>
    obtain ⟨hy, hrest⟩ := List.forall_mem_cons.1 hb
    simp only [List.cons_append, coalesceAt, if_neg hy, ih hrest]

/-- A list that holds an entry of some kind has a first one. -/
theorem exists_first {α : Type} {p : α → Prop} {l : List α} (h : ∃ a ∈ l, p a) :
    ∃ before a after, l = before ++ a :: after ∧ p a ∧ ∀ x ∈ before, ¬p x := by
  induction l with
  | nil => exact absurd h (by simp)
  | cons x rest ih =>
    by_cases hx : p x
    · exact ⟨[], x, rest, rfl, hx, nofun⟩
    · obtain ⟨a, ha, hpa⟩ := h
      obtain rfl | ha := List.mem_cons.1 ha
      · exact absurd hpa hx
      · obtain ⟨before, a, after, rfl, hp, hb⟩ := ih ⟨a, ha, hpa⟩
        exact ⟨x :: before, a, after, rfl, hp, List.forall_mem_cons.2 ⟨hx, hb⟩⟩

/-- Step 4 for one object appends a new entry where there is room. -/
theorem placeObject_of_room (hold : Nat) {p : Placement} (o : ShadeObject)
    (h : p.entries.length < 16) :
    placeObject hold p o =
      { p with entries := p.entries ++ [entryOfObject hold o], inserted := p.inserted + 1 } := by
  have hcap : p.entries.length < Config.tableCapacity := h
  simp only [placeObject, if_pos hcap]

/-- In a full table with a FADING entry, a new entry takes the place of the first of the greatest Veff. -/
theorem placeObject_of_fading (hold : Nat) {p : Placement} (o : ShadeObject)
    (hfull : 16 ≤ p.entries.length) (hf : ∃ e ∈ p.entries, e.state = .fading) :
    ∃ before e after,
      p.entries = before ++ e :: after ∧ e.state = .fading ∧
        (∀ x ∈ p.entries, x.state = .fading → x.veff ≤ e.veff) ∧
        (∀ x ∈ before, x.state = .fading → x.veff < e.veff) ∧
        placeObject hold p o =
          { p with
            entries := before ++ entryOfObject hold o :: after
            inserted := p.inserted + 1 } := by
  obtain ⟨hno, -⟩ | ⟨n, hn, hle, hex⟩ := greatestFading_cases p.entries
  · obtain ⟨e, he, hef⟩ := hf
    exact absurd hef (hno e he)
  · obtain ⟨before, e, after, hes, ⟨hef, rfl⟩, hb⟩ := exists_first hex
    refine ⟨before, e, after, hes, hef, hle, fun x hx hxf => ?_, ?_⟩
    · have hxle := hle x (by simp [hes, hx]) hxf
      exact Nat.lt_of_le_of_ne hxle fun heq => hb x hx ⟨hxf, heq⟩
    · have hcap : ¬p.entries.length < Config.tableCapacity := hfull.not_gt
      have hevict :
          evict e.veff (entryOfObject hold o) p.entries = before ++ entryOfObject hold o :: after := by
        rw [hes, evict_append _ hb ⟨hef, rfl⟩]
      simp only [placeObject, if_neg hcap, hn, hevict]

/-- In a full table with none FADING, the object goes into the first entry at the least gap. -/
theorem placeObject_of_full (hold : Nat) {p : Placement} (o : ShadeObject)
    (hfull : 16 ≤ p.entries.length) (hf : ∀ e ∈ p.entries, e.state ≠ .fading) :
    ∃ before e after,
      p.entries = before ++ e :: after ∧ (∀ x ∈ p.entries, gap o e ≤ gap o x) ∧
        (∀ x ∈ before, gap o e < gap o x) ∧
        placeObject hold p o =
          { p with
            entries := before ++ e.coalesce hold o :: after
            coalesced := p.coalesced + 1 } := by
  obtain ⟨-, hnone⟩ | ⟨n, -, -, e, he, hef, -⟩ := greatestFading_cases p.entries
  · obtain ⟨hnil, -⟩ | ⟨n, hn, hle, hex⟩ := leastGap_cases o p.entries
    · simp [hnil] at hfull
    · obtain ⟨before, e, after, hes, rfl, hb⟩ := exists_first hex
      refine ⟨before, e, after, hes, hle, fun x hx => ?_, ?_⟩
      · exact Nat.lt_of_le_of_ne (hle x (by simp [hes, hx])) (Ne.symm (hb x hx))
      · have hcap : ¬p.entries.length < Config.tableCapacity := hfull.not_gt
        have hcoalesce :
            coalesceAt hold (gap o e) o p.entries = before ++ e.coalesce hold o :: after := by
          rw [hes, coalesceAt_append hb rfl]
        simp only [placeObject, if_neg hcap, hn, hnone, Option.getD_some, hcoalesce]
  · exact absurd hef (hf e he)

/-- What step 4 makes of one object: a new entry at the end or in the place of a FADING one, or an entry that is not FADING coalesced with it. -/
theorem placeObject_cases (hold : Nat) (p : Placement) (o : ShadeObject) :
    (p.entries.length < 16 ∧
        placeObject hold p o =
          { p with entries := p.entries ++ [entryOfObject hold o], inserted := p.inserted + 1 }) ∨
      (∃ before e after,
        p.entries = before ++ e :: after ∧ e.state = .fading ∧
          placeObject hold p o =
            { p with
              entries := before ++ entryOfObject hold o :: after
              inserted := p.inserted + 1 }) ∨
      ∃ before e after,
        p.entries = before ++ e :: after ∧ e.state ≠ .fading ∧
          placeObject hold p o =
            { p with
              entries := before ++ e.coalesce hold o :: after
              coalesced := p.coalesced + 1 } := by
  by_cases hroom : p.entries.length < 16
  · exact .inl ⟨hroom, placeObject_of_room hold o hroom⟩
  · by_cases hf : ∃ e ∈ p.entries, e.state = .fading
    · obtain ⟨before, e, after, hes, hef, -, -, h⟩ :=
        placeObject_of_fading hold o (Nat.not_lt.1 hroom) hf
      exact .inr (.inl ⟨before, e, after, hes, hef, h⟩)
    · simp only [not_exists, not_and] at hf
      obtain ⟨before, e, after, hes, -, -, h⟩ := placeObject_of_full hold o (Nat.not_lt.1 hroom) hf
      exact .inr (.inr ⟨before, e, after, hes, hf e (by simp [hes]), h⟩)

/-- Step 4 counts each object as inserted or as coalesced. -/
theorem foldl_placeObject_count (hold : Nat) (os : List ShadeObject) (p : Placement) :
    (os.foldl (placeObject hold) p).inserted + (os.foldl (placeObject hold) p).coalesced =
      p.inserted + p.coalesced + os.length := by
  induction os generalizing p with
  | nil => rfl
  | cons o rest ih =>
    rw [List.foldl_cons, ih, List.length_cons]
    obtain ⟨-, e⟩ | ⟨_, _, _, -, -, e⟩ | ⟨_, _, _, -, -, e⟩ := placeObject_cases hold p o <;>
      simp only [e] <;> omega

/-! ## Step 5: table order (R2, R15) -/

theorem ShadeEntry.before_iff (a b : ShadeEntry) :
    a.before b = true ↔ a.left < b.left ∨ (a.left = b.left ∧ a.id ≤ b.id) := by
  simp [ShadeEntry.before]

theorem sortEntries_perm (es : List ShadeEntry) : (sortEntries es).Perm es :=
  List.perm_insertionSort _ es

theorem pairwise_sortEntries (es : List ShadeEntry) :
    (sortEntries es).Pairwise fun a b => a.left < b.left ∨ (a.left = b.left ∧ a.id ≤ b.id) := by
  have total : Std.Total fun a b : ShadeEntry => a.before b = true :=
    ⟨fun a b => by simp only [ShadeEntry.before_iff]; omega⟩
  have trans : IsTrans ShadeEntry fun a b => a.before b = true :=
    ⟨fun a b c => by simp only [ShadeEntry.before_iff]; omega⟩
  exact (List.pairwise_insertionSort (fun a b : ShadeEntry => a.before b = true) es).imp
    fun {a b} h => (a.before_iff b).1 h

end Sys2Proof.Machine
end

section
/-! PROOF. What a merge does as a whole (R5 to R15): its rules, its counts, that every valid object is shaded after it, and an entry no longer reported. -/

namespace Sys2Proof.Machine

/-! ## The rules, step by step -/

theorem gap_le_iff (o : ShadeObject) (e x : ShadeEntry) :
    gap o e ≤ gap o x ↔
      max 0 (max e.left o.left - min e.right o.right) ≤
        max 0 (max x.left o.left - min x.right o.right) := by
  unfold gap
  omega

theorem gap_lt_iff (o : ShadeObject) (e x : ShadeEntry) :
    gap o e < gap o x ↔
      max 0 (max e.left o.left - min e.right o.right) <
        max 0 (max x.left o.left - min x.right o.right) := by
  unfold gap
  omega

/-- A class code that is not 3 and a lamps code that is not 0 name a class and lamps. -/
theorem classOfCode_of_le {n : Nat} (h : n ≤ 3) :
    classOfCode n =
      if n = 3 then none
      else some (if n = 0 then .oncoming else if n = 1 then .preceding else .sign) := by
  interval_cases n <;> rfl

theorem lampsOfCode_of_le {n : Nat} (h : n ≤ 3) :
    lampsOfCode n =
      if n = 0 then none else some (if n = 1 then .left else if n = 2 then .right else .both) := by
  interval_cases n <;> rfl

/-- Which objects are ignored, and what a valid one is (R6, R7). -/
theorem validateObject_eq {seen : List Nat} {o : RawObject} (hc : o.classBits ≤ 3)
    (hl : o.lampBits ≤ 3) :
    validateObject seen o =
      if o.id = 0 ∨ o.width = 0 ∨ o.classBits = 3 ∨ o.lampBits = 0 ∨ o.id ∈ seen then none
      else
        some
          { id := o.id
            left := o.left
            right := if 128 < o.left + o.width then 128 else o.left + o.width
            rows := if o.rowsBit = true then .both else .upper
            lamps := if o.lampBits = 1 then .left else if o.lampBits = 2 then .right else .both
            cls :=
              if o.classBits = 0 then .oncoming
              else if o.classBits = 1 then .preceding else .sign
            v := o.v } := by
  have hright : min 128 (o.left + (o.width : Int)) =
      if 128 < o.left + (o.width : Int) then 128 else o.left + (o.width : Int) := by
    split <;> omega
  rw [validateObject, classOfCode_of_le hc, lampsOfCode_of_le hl, hright]
  by_cases h1 : o.id = 0 ∨ o.width = 0 ∨ o.id ∈ seen
  · rw [if_pos h1, if_pos (by tauto)]
  · rw [if_neg h1]
    by_cases h2 : o.classBits = 3
    · simp [h2]
    · by_cases h3 : o.lampBits = 0
      · simp [h2, h3]
      · have hvalid : ¬(o.id = 0 ∨ o.width = 0 ∨ o.classBits = 3 ∨ o.lampBits = 0 ∨ o.id ∈ seen) := by
          tauto
        rw [if_neg h2, if_neg h3, if_neg hvalid]
        rfl

/-- The entry that an object matches, with its fields written out (R8, R9). -/
theorem WorkEntry.matchedBy_eq (hold : Nat) (o : ShadeObject) (w : WorkEntry) :
    w.matchedBy hold o =
      { entry :=
          if w.matched = true then
            { w.entry with
              left := min w.entry.left o.left
              right := max w.entry.right o.right
              v := min w.entry.v o.v
              veff := min w.entry.v o.v
              rows := if w.entry.rows = .both ∨ o.rows = .both then .both else .upper
              lamps := if w.entry.lamps = o.lamps then o.lamps else .both
              cls :=
                if w.entry.cls = .oncoming ∨ o.cls = .oncoming then .oncoming
                else if w.entry.cls = .preceding ∨ o.cls = .preceding then .preceding
                else .sign
              state := .active
              hold := hold }
          else
            { w.entry with
              left := o.left, right := o.right, rows := o.rows, lamps := o.lamps
              cls := o.cls, v := o.v, veff := o.v, state := .active, hold := hold }
        matched := true } := by
  rw [← ShadeRows.widen_eq, ← ShadeLamps.widen_eq, ← RoadClass.widen_eq]
  rfl

/-- An object that reaches an entry, with the entries before it not reached, matches that one. -/
theorem matchObject_append {hold : Nat} {o : ShadeObject} {before after : List WorkEntry}
    {w : WorkEntry} (hb : ∀ x ∈ before, o.id ∉ x.entry.ids) (hw : o.id ∈ w.entry.ids) :
    matchObject hold o (before ++ w :: after) = some (before ++ w.matchedBy hold o :: after) := by
  induction before with
  | nil =>
    simp only [List.nil_append, matchObject, (ShadeEntry.reachedBy_iff _ _).2 hw, if_true]
    rfl
  | cons x rest ih =>
    obtain ⟨hx, hrest⟩ := List.forall_mem_cons.1 hb
    have hno : ¬x.entry.reachedBy o.id = true := mt (ShadeEntry.reachedBy_iff _ _).1 hx
    simp only [List.cons_append, matchObject, if_neg hno, ih hrest, Option.map_some]

theorem ShadeEntry.mem_ids {n : Nat} {e : ShadeEntry} : n ∈ e.ids ↔ e.id = n ∨ n ∈ e.aliases := by
  rw [ShadeEntry.ids, List.mem_cons, eq_comm]

theorem ShadeEntry.not_mem_ids {n : Nat} {e : ShadeEntry} :
    n ∉ e.ids ↔ e.id ≠ n ∧ n ∉ e.aliases := by
  rw [ShadeEntry.mem_ids, not_or]

/-- Settles O22: each step is what its rule says, and a merge is the five in turn. -/
theorem anObjectIsPlacedByTheRules : Obligations.AnObjectIsPlacedByTheRules := by
  refine ⟨fun hold o p => ⟨placeObject_of_room hold o, placeObject_of_fading hold o, fun hfull hf => ?_⟩,
    ⟨rfl, fun earlier o v hc hl hv => ?_⟩,
    fun hold o rest ws => ⟨rfl, fun hno => ?_, fun before after w hws hb hw => ?_⟩,
    fun hold ws => ?_, fun hold objects table v matching placing hv hm hp => ?_⟩
  · obtain ⟨before, e, after, hes, hleast, hfirst, hplaced⟩ := placeObject_of_full hold o hfull hf
    exact ⟨before, e, after, hes, fun x hx => (gap_le_iff o e x).1 (hleast x hx),
      fun x hx => (gap_lt_iff o e x).1 (hfirst x hx), hplaced⟩
  · subst hv
    rw [validateObjects_concat, validateObject_eq hc hl]
    simp only [List.append_nil, List.mem_map]
    by_cases hvalid : o.id = 0 ∨ o.width = 0 ∨ o.classBits = 3 ∨ o.lampBits = 0 ∨
      ∃ x ∈ earlier, x.id = o.id
    · rw [if_pos hvalid, if_pos hvalid]
    · rw [if_neg hvalid, if_neg hvalid]
  · obtain ⟨-, e⟩ | ⟨before, w, after, rfl, -, hw, -⟩ := matchObject_cases hold o ws
    · exact matchObjects_of_none rest e
    · exact absurd hw (ShadeEntry.not_mem_ids.2 (hno w (by simp)))
  · subst hws
    rw [← WorkEntry.matchedBy_eq]
    exact matchObjects_of_some rest
      (matchObject_append (fun x hx => ShadeEntry.not_mem_ids.2 (hb x hx)) (ShadeEntry.mem_ids.2 hw))
  · refine congrArg (List.filterMap · ws) (funext fun w => ?_)
    rw [ShadeEntry.release_eq]
    cases w.matched <;> simp
  · subst hv hm hp
    exact ⟨_, sortEntries_perm _, pairwise_sortEntries _, rfl⟩

/-! ## The counts (R15) -/

/-- No entry of a working order that none has matched is ACTIVE after step 3. -/
theorem ShadeEntry.release_not_active {hold : Nat} {e x : ShadeEntry} (h : e.release hold = some x) :
    x.state ≠ .active := by
  rw [ShadeEntry.release_eq] at h
  split at h
  · cases h
    assumption
  · split at h
    · split at h
      · cases h
        exact nofun
      · cases h
    · cases h
      exact nofun

/-- Settles O21: validation splits the objects into valid and ignored, matching the valid ones into matched and left, and step 4 the left ones into inserted and coalesced. -/
theorem listCountsSumToTheObjects : Obligations.ListCountsSumToTheObjects := by
  intro hold objects table m hm
  subst hm
  constructor
  · have hvalid := validateObjects_count [] objects
    have hleft := (matchObjects_sublist hold (validateObjects [] objects).objects
      (table.map fun e => ⟨e, false⟩)).length_le
    have hplaced := foldl_placeObject_count hold
      (matchObjects hold (validateObjects [] objects).objects (table.map fun e => ⟨e, false⟩)).2
      { entries := releaseUnmatched hold (matchObjects hold (validateObjects [] objects).objects
          (table.map fun e => ⟨e, false⟩)).1
        inserted := 0, coalesced := 0 }
    simp only [mergeList, placeObjects] at hplaced ⊢
    omega
  · rintro rfl e he
    have hmem := (sortEntries_perm _).mem_iff.1 he
    obtain ⟨w, hw, hrel⟩ := List.mem_filterMap.1 hmem
    obtain ⟨x, -, rfl⟩ := List.mem_map.1 hw
    exact ShadeEntry.release_not_active hrel

/-! ## Every valid object is shaded (R8, R9, R11, R14) -/

/-- An entry that shades an object and has Veff at V, as every ACTIVE entry has: combining it with others keeps it so. -/
def ShadeEntry.Covers (e : ShadeEntry) (o : ShadeObject) : Prop := e.shades o ∧ e.veff = e.v

theorem ShadeEntry.covers_entryOfObject (hold : Nat) (o : ShadeObject) :
    (entryOfObject hold o).Covers o :=
  ⟨⟨rfl, Int.le_refl _, Int.le_refl _, Nat.le_refl _, fun _ h => h, fun _ h => h⟩, rfl⟩

theorem ShadeEntry.covers_take (hold : Nat) (o : ShadeObject) (e : ShadeEntry) :
    (e.take hold o).Covers o :=
  ⟨⟨rfl, Int.le_refl _, Int.le_refl _, Nat.le_refl _, fun _ h => h, fun _ h => h⟩, rfl⟩

/-- A combined entry covers the object that it is combined with, and what it covered before. -/
theorem ShadeEntry.covers_combine (hold : Nat) (o : ShadeObject) (e : ShadeEntry) :
    (e.combine hold o).Covers o :=
  ⟨⟨rfl, Int.min_le_right _ _, Int.le_max_right _ _, Nat.min_le_right _ _,
    fun _ h => ShadeRows.widen_includes (.inr h), fun _ h => ShadeLamps.widen_includes (.inr h)⟩, rfl⟩

theorem ShadeEntry.Covers.combine {e : ShadeEntry} {x : ShadeObject} (h : e.Covers x) (hold : Nat)
    (o : ShadeObject) : (e.combine hold o).Covers x := by
  obtain ⟨⟨-, hl, hr, hv, hrows, hlamps⟩, hveff⟩ := h
  exact ⟨⟨rfl, (Int.min_le_left _ _).trans hl, hr.trans (Int.le_max_left _ _),
    (Nat.min_le_left _ _).trans (hveff ▸ hv), fun r hx => ShadeRows.widen_includes (.inl (hrows r hx)),
    fun k hx => ShadeLamps.widen_includes (.inl (hlamps k hx))⟩, rfl⟩

theorem ShadeEntry.covers_coalesce (hold : Nat) (o : ShadeObject) (e : ShadeEntry) :
    (e.coalesce hold o).Covers o := e.covers_combine hold o

theorem ShadeEntry.Covers.coalesce {e : ShadeEntry} {x : ShadeObject} (h : e.Covers x) (hold : Nat)
    (o : ShadeObject) : (e.coalesce hold o).Covers x := h.combine hold o

/-- An entry that an object of the list has matched covers `x`. -/
def MatchedCovers (ws : List WorkEntry) (x : ShadeObject) : Prop :=
  ∃ w ∈ ws, w.matched = true ∧ w.entry.Covers x

theorem WorkEntry.matchedBy_covers (hold : Nat) (o : ShadeObject) (w : WorkEntry) :
    (w.matchedBy hold o).entry.Covers o := by
  unfold WorkEntry.matchedBy
  cases w.matched
  · exact w.entry.covers_take hold o
  · exact w.entry.covers_combine hold o

/-- What a matched entry covers it covers after one more match. -/
theorem MatchedCovers.matchedBy {before after : List WorkEntry} {w : WorkEntry} {x : ShadeObject}
    (h : MatchedCovers (before ++ w :: after) x) (hold : Nat) (o : ShadeObject) :
    MatchedCovers (before ++ w.matchedBy hold o :: after) x := by
  obtain ⟨y, hy, hm, hc⟩ := h
  obtain rfl | hne : y = w ∨ y ∈ before ++ after := by
    simp only [List.mem_append, List.mem_cons] at hy ⊢
    tauto
  · refine ⟨y.matchedBy hold o, by simp, rfl, ?_⟩
    simpa [WorkEntry.matchedBy, hm] using hc.combine hold o
  · refine ⟨y, ?_, hm, hc⟩
    simp only [List.mem_append, List.mem_cons] at hne ⊢
    tauto

/-- After step 2 each object of the list is left for step 4, or covered by a matched entry. -/
theorem matchObjects_covers (hold : Nat) (os : List ShadeObject) (ws : List WorkEntry) :
    (∀ x, MatchedCovers ws x → MatchedCovers (matchObjects hold os ws).1 x) ∧
      ∀ o ∈ os, o ∈ (matchObjects hold os ws).2 ∨ MatchedCovers (matchObjects hold os ws).1 o := by
  induction os generalizing ws with
  | nil => exact ⟨fun _ h => h, nofun⟩
  | cons o rest ih =>
    obtain ⟨-, e⟩ | ⟨before, w, after, rfl, -, -, e⟩ := matchObject_cases hold o ws
    · rw [matchObjects_of_none rest e]
      refine ⟨(ih ws).1, fun x hx => ?_⟩
      obtain rfl | hx := List.mem_cons.1 hx
      · exact .inl List.mem_cons_self
      · exact ((ih ws).2 x hx).imp_left (List.mem_cons_of_mem _)
    · rw [matchObjects_of_some rest e]
      refine ⟨fun x hx => (ih _).1 x (hx.matchedBy hold o), fun x hx => ?_⟩
      obtain rfl | hx := List.mem_cons.1 hx
      · exact .inr ((ih _).1 x ⟨_, by simp, rfl, w.matchedBy_covers hold x⟩)
      · exact (ih _).2 x hx

/-- An entry covers `x`. -/
def TableCovers (es : List ShadeEntry) (x : ShadeObject) : Prop := ∃ e ∈ es, e.Covers x

/-- Step 4 covers its object, and uncovers none: it replaces FADING entries alone. -/
theorem placeObject_covers (hold : Nat) (p : Placement) (o : ShadeObject) :
    TableCovers (placeObject hold p o).entries o ∧
      ∀ x, TableCovers p.entries x → TableCovers (placeObject hold p o).entries x := by
  have new := ShadeEntry.covers_entryOfObject hold o
  obtain ⟨-, e⟩ | ⟨before, y, after, hes, hf, e⟩ | ⟨before, y, after, hes, -, e⟩ :=
    placeObject_cases hold p o <;> rw [e]
  · exact ⟨⟨_, by simp, new⟩, fun x ⟨a, ha, hc⟩ => ⟨a, by simp [ha], hc⟩⟩
  · refine ⟨⟨_, by simp, new⟩, fun x ⟨a, ha, hc⟩ => ⟨a, ?_, hc⟩⟩
    have hne : a ≠ y := by
      rintro rfl
      have hactive := hc.1.1
      rw [hf] at hactive
      cases hactive
    simp only [hes, List.mem_append, List.mem_cons] at ha ⊢
    tauto
  · refine ⟨⟨_, by simp, y.covers_coalesce hold o⟩, fun x ⟨a, ha, hc⟩ => ?_⟩
    obtain rfl | hne : a = y ∨ a ∈ before ++ after := by
      simp only [hes, List.mem_append, List.mem_cons] at ha ⊢
      tauto
    · exact ⟨_, by simp, hc.coalesce hold o⟩
    · refine ⟨a, ?_, hc⟩
      simp only [List.mem_append, List.mem_cons] at hne ⊢
      tauto

theorem placeObjects_covers (hold : Nat) (os : List ShadeObject) (p : Placement) :
    (∀ o ∈ os, TableCovers (os.foldl (placeObject hold) p).entries o) ∧
      ∀ x, TableCovers p.entries x → TableCovers (os.foldl (placeObject hold) p).entries x := by
  induction os generalizing p with
  | nil => exact ⟨nofun, fun _ h => h⟩
  | cons o rest ih =>
    obtain ⟨hnew, hkept⟩ := placeObject_covers hold p o
    obtain ⟨hrest, hkept'⟩ := ih (placeObject hold p o)
    refine ⟨fun x hx => ?_, fun x hx => hkept' x (hkept x hx)⟩
    obtain rfl | hx := List.mem_cons.1 hx
    · exact hkept' x hnew
    · exact hrest x hx

/-- Settles O23: a matched object is covered after step 2 by an entry that step 3 keeps, an object left for step 4 by the entry it is placed in, and no later object uncovers it. -/
theorem everyReportedRoadUserIsShaded : Obligations.EveryReportedRoadUserIsShaded := by
  intro hold objects table o ho
  suffices h : TableCovers (mergeList hold objects table).table o by
    obtain ⟨e, he, hc⟩ := h
    exact ⟨e, he, hc.1⟩
  have sorted (es : List ShadeEntry) (h : TableCovers es o) : TableCovers (sortEntries es) o := by
    obtain ⟨e, he, hc⟩ := h
    exact ⟨e, (sortEntries_perm es).mem_iff.2 he, hc⟩
  refine sorted _ ?_
  obtain ⟨hplaced, hkept⟩ := placeObjects_covers hold
    (matchObjects hold (validateObjects [] objects).objects (table.map fun e => ⟨e, false⟩)).2
    { entries := releaseUnmatched hold (matchObjects hold (validateObjects [] objects).objects
        (table.map fun e => ⟨e, false⟩)).1
      inserted := 0, coalesced := 0 }
  obtain hleft | ⟨w, hw, hm, hc⟩ := (matchObjects_covers hold _ (table.map fun e => ⟨e, false⟩)).2 o ho
  · exact hplaced o hleft
  · exact hkept o ⟨w.entry, List.mem_filterMap.2 ⟨w, hw, by simp [hm]⟩, hc⟩

/-! ## An entry that is reported no more (R19, R20) -/

/-- A FADING entry rises by fade_step until it would reach 255. -/
theorem iterate_age_fading (step n : Nat) {e : ShadeEntry} (hf : e.state = .fading)
    (hv : e.veff < 255) :
    (fun o => o.bind (ShadeEntry.age step))^[n] (some e) =
      if e.veff + n * step < 255 then some { e with veff := e.veff + n * step } else none := by
  induction n with
  | zero => simp [hv]
  | succ n ih =>
    rw [Function.iterate_succ_apply', ih]
    split
    · have hsum : e.veff + n * step + step = e.veff + (n + 1) * step := by ring
      simp only [Option.bind_some, ShadeEntry.age, hf, hsum]
      split <;> rename_i h <;> simp [Nat.not_lt.2, Nat.lt_of_not_le, h]
    · rename_i h
      rw [if_neg (by nlinarith)]
      rfl

/-- An entry in HOLD counts down its hold count. -/
theorem iterate_age_hold (step : Nat) {n : Nat} {e : ShadeEntry} (hs : e.state = .hold)
    (hn : n < e.hold) :
    (fun o => o.bind (ShadeEntry.age step))^[n] (some e) = some { e with hold := e.hold - n } := by
  induction n with
  | zero => rfl
  | succ n ih =>
    rw [Function.iterate_succ_apply', ih (Nat.lt_of_succ_lt hn)]
    have hmore : ¬e.hold - n ≤ 1 := by omega
    simp only [Option.bind_some, ShadeEntry.age, hs, if_neg hmore, Nat.sub_sub]

/-- Settles O25: the last of its hold snapshots puts an entry in FADING at V, and from there it rises. -/
theorem anUnreportedEntryIsHeldThenFades : Obligations.AnUnreportedEntryIsHeldThenFades := by
  intro step e n
  refine ⟨fun ha => ?_, fun hs hhold => ⟨iterate_age_hold step hs, ?_⟩, fun hf hv =>
    iterate_age_fading step n hf hv⟩
  · exact Function.iterate_fixed (by simp [ShadeEntry.age, ha]) n
  · obtain ⟨m, hm⟩ : ∃ m, e.hold = m + 1 := Nat.exists_eq_add_of_le' hhold
    have hlast : (fun o => o.bind (ShadeEntry.age step))^[m + 1] (some e) = e.fade := by
      rw [Function.iterate_succ_apply', iterate_age_hold step hs (by omega)]
      have hone : e.hold - m ≤ 1 := by omega
      simp only [Option.bind_some, ShadeEntry.age, hs, if_pos hone]
      rfl
    rw [Nat.add_comm, Function.iterate_add_apply, hm, hlast, ShadeEntry.fade]
    split
    · rename_i hv
      rw [iterate_age_fading step n rfl hv]
    · have hnone : ∀ k, (fun o => o.bind (ShadeEntry.age step))^[k] none = none :=
        Function.iterate_fixed rfl
      rw [hnone, if_neg (by omega)]

end Sys2Proof.Machine
end

section
/-! PROOF. The Shade Table is sound after every step (R1, R2): ids once, entries in their ranges, in table order. -/

namespace Sys2Proof.Machine

/-! ## The ids of a table -/

/-- The ids and aliases of the entries of a list, in its order. -/
def tableIds (es : List ShadeEntry) : List Nat := es.flatMap ShadeEntry.ids

theorem tableIds_append (a b : List ShadeEntry) : tableIds (a ++ b) = tableIds a ++ tableIds b :=
  List.flatMap_append

theorem tableIds_cons (e : ShadeEntry) (es : List ShadeEntry) :
    tableIds (e :: es) = e.ids ++ tableIds es := rfl

/-- A list in any order with every property of a table but its order. -/
structure EntriesWf (es : List ShadeEntry) : Prop where
  capacity : es.length ≤ 16
  entries : ∀ e ∈ es, EntryWf e
  ids_once : (tableIds es).Nodup

theorem tableWf_nil : TableWf [] := ⟨by decide, nofun, List.Pairwise.nil, List.nodup_nil⟩

/-- Sorting makes a table: where two entries have one left edge their ids, which differ, decide. -/
theorem EntriesWf.sorted {es : List ShadeEntry} (h : EntriesWf es) : TableWf (sortEntries es) := by
  have hperm := sortEntries_perm es
  have honce : (tableIds (sortEntries es)).Nodup := (hperm.flatMap_right _).nodup_iff.2 h.ids_once
  have hdiffer : (sortEntries es).Pairwise fun a b => a.id ≠ b.id := by
    refine (List.nodup_flatMap.1 honce).2.imp fun {a b} hd he => ?_
    have hapart : a.ids.Disjoint b.ids := hd
    refine hapart (a := a.id) List.mem_cons_self ?_
    rw [he]
    exact List.mem_cons_self
  refine ⟨hperm.length_eq ▸ h.capacity, fun e he => h.entries e (hperm.mem_iff.1 he), ?_, honce⟩
  refine ((pairwise_sortEntries es).and hdiffer).imp fun {a b} hab => ?_
  obtain ⟨hle, hne⟩ := hab
  omega

/-! ## Entries taken out or changed in place: release and aging (R10, R18 to R20) -/

/-- A rule for single entries that removes an entry or keeps its ids, its left edge and its soundness. -/
def KeepsEntries (f : ShadeEntry → Option ShadeEntry) : Prop :=
  ∀ e x, f e = some x → x.ids = e.ids ∧ x.left = e.left ∧ (EntryWf e → EntryWf x)

/-- Entries formed one by one under the ids of others have some of the ids of those. -/
theorem tableIds_filterMap {α : Type} {g : α → Option ShadeEntry} {entry : α → ShadeEntry}
    (hg : ∀ a x, g a = some x → x.ids = (entry a).ids) (l : List α) :
    (tableIds (l.filterMap g)).Sublist (tableIds (l.map entry)) := by
  induction l with
  | nil => exact List.Sublist.refl _
  | cons a rest ih =>
    rw [List.map_cons, tableIds_cons]
    cases h : g a with
    | none => rw [List.filterMap_cons_none h]; exact ih.trans (List.sublist_append_right _ _)
    | some x =>
      rw [List.filterMap_cons_some h, tableIds_cons, hg a x h]
      exact ih.append_left _

theorem TableWf.filterMap {f : ShadeEntry → Option ShadeEntry} {es : List ShadeEntry}
    (h : TableWf es) (hf : KeepsEntries f) : TableWf (es.filterMap f) := by
  refine ⟨(List.length_filterMap_le _ _).trans h.capacity, fun x hx => ?_, ?_, ?_⟩
  · obtain ⟨e, he, hfe⟩ := List.mem_filterMap.1 hx
    exact (hf e x hfe).2.2 (h.entries e he)
  · refine List.pairwise_filterMap.2 (h.ordered.imp fun {a b} hab x hx y hy => ?_)
    obtain ⟨hxi, hxl, -⟩ := hf a x hx
    obtain ⟨hyi, hyl, -⟩ := hf b y hy
    rw [hxl, hyl, (List.cons.inj hxi).1, (List.cons.inj hyi).1]
    exact hab
  · have hsub := tableIds_filterMap (entry := id) (fun e x hx => (hf e x hx).1) es
    rw [List.map_id] at hsub
    exact hsub.nodup h.ids_once

theorem keepsEntries_fade : KeepsEntries ShadeEntry.fade := by
  intro e x h
  unfold ShadeEntry.fade at h
  split at h
  · rename_i hv
    cases h
    exact ⟨rfl, rfl, fun w => { w with
      hold_range := by simp
      active_veff := nofun
      hold_veff := nofun
      fading_veff := fun _ => ⟨Nat.le_refl _, hv, rfl⟩ }⟩
  · cases h

theorem keepsEntries_release {hold : Nat} (hh : hold ≤ 255) : KeepsEntries (ShadeEntry.release hold) := by
  intro e x h
  unfold ShadeEntry.release at h
  split at h
  · split at h
    · exact keepsEntries_fade e x h
    · rename_i hn
      have hpos : 1 ≤ hold := Nat.one_le_iff_ne_zero.2 fun hz => hn (.inl hz)
      cases h
      exact ⟨rfl, rfl, fun w => { w with
        hold_range := hh
        active_veff := nofun
        hold_veff := fun _ => ⟨rfl, hpos⟩
        fading_veff := nofun }⟩
  · cases h
    exact ⟨rfl, rfl, id⟩
  · cases h
    exact ⟨rfl, rfl, id⟩

theorem keepsEntries_age (step : Nat) : KeepsEntries (ShadeEntry.age step) := by
  intro e x h
  unfold ShadeEntry.age at h
  split at h
  · cases h
    exact ⟨rfl, rfl, id⟩
  · rename_i hs
    split at h
    · exact keepsEntries_fade e x h
    · rename_i hmore
      cases h
      refine ⟨rfl, rfl, fun w => { w with hold_range := ?_, hold_veff := fun _ => ?_, fading_veff := ?_ }⟩
      · exact (Nat.sub_le _ _).trans w.hold_range
      · exact ⟨(w.hold_veff hs).1, by simp only; omega⟩
      · simp [hs]
  · rename_i hs
    split at h
    · cases h
    · rename_i hlow
      cases h
      refine ⟨rfl, rfl, fun w => { w with active_veff := ?_, hold_veff := ?_, fading_veff := fun _ => ?_ }⟩
      · simp [hs]
      · simp [hs]
      · obtain ⟨hle, -, hz⟩ := w.fading_veff hs
        exact ⟨by simp only; omega, by simp only; omega, hz⟩

/-! ## Valid objects in their ranges (R6, R7) -/

/-- The fields of an object in the ranges of an entry's. -/
structure ShadeObject.InRange (o : ShadeObject) : Prop where
  id_range : 1 ≤ o.id ∧ o.id ≤ 255
  edges : -128 ≤ o.left ∧ o.left < o.right ∧ o.right ≤ 128
  v_range : o.v ≤ 255

theorem readObjects_range (payload : List Byte) :
    ∀ o ∈ readObjects payload, o.id ≤ 255 ∧ (-128 ≤ o.left ∧ o.left ≤ 127) ∧ o.v ≤ 255 := by
  induction payload using readObjects.induct with
  | case1 id left width v flags rest ih =>
    rw [readObjects]
    refine List.forall_mem_cons.2 ⟨⟨?_, ?_, ?_⟩, ih⟩
    · exact Nat.le_of_lt_succ id.isLt
    · have hlow := BitVec.le_toInt left
      have hhigh := BitVec.toInt_lt (x := left)
      simp only [signed8]
      omega
    · exact Nat.le_of_lt_succ v.isLt
  | case2 l h => rw [readObjects.eq_2 _ h]; exact nofun

/-- Each valid object comes from one of the list. -/
theorem mem_validateObjects {seen : List Nat} {os : List RawObject} {x : ShadeObject}
    (h : x ∈ (validateObjects seen os).objects) : ∃ o ∈ os, ∃ ids, validateObject ids o = some x := by
  induction os generalizing seen with
  | nil => cases h
  | cons o rest ih =>
    have later (hx : x ∈ (validateObjects (o.id :: seen) rest).objects) :
        ∃ y ∈ o :: rest, ∃ ids, validateObject ids y = some x := by
      obtain ⟨y, hy, hv⟩ := ih hx
      exact ⟨y, List.mem_cons_of_mem _ hy, hv⟩
    simp only [validateObjects] at h
    split at h
    · exact later h
    · rename_i z hz
      obtain rfl | hx := List.mem_cons.1 h
      · exact ⟨o, List.mem_cons_self, seen, hz⟩
      · exact later hx

theorem validObject_inRange {payload : List Byte} {o : ShadeObject}
    (h : o ∈ (validateObjects [] (readObjects payload)).objects) : o.InRange := by
  obtain ⟨raw, hraw, ids, hv⟩ := mem_validateObjects h
  obtain ⟨hid, hleft, hres⟩ := readObjects_range payload raw hraw
  obtain ⟨hid0, hwidth, -, ei, el, er, ev⟩ := validateObject_eq_some hv
  exact ⟨by omega, by omega, by omega⟩

/-! ## Entries formed from objects (R8, R9, R11, R14) -/

section
variable {hold : Nat} {o : ShadeObject} {e : ShadeEntry}

theorem entryWf_entryOfObject (hh : hold ≤ 255) (ho : o.InRange) : EntryWf (entryOfObject hold o) where
  id_range := ho.id_range
  alias_range := nofun
  alias_count := Nat.zero_le 3
  edges := ho.edges
  v_range := ho.v_range
  hold_range := hh
  active_veff _ := rfl
  hold_veff := nofun
  fading_veff := nofun

theorem EntryWf.take (w : EntryWf e) (hh : hold ≤ 255) (ho : o.InRange) : EntryWf (e.take hold o) :=
  { entryWf_entryOfObject hh ho with
    id_range := w.id_range
    alias_range := w.alias_range
    alias_count := w.alias_count }

theorem EntryWf.combine (w : EntryWf e) (hh : hold ≤ 255) (ho : o.InRange) : EntryWf (e.combine hold o) where
  id_range := w.id_range
  alias_range := w.alias_range
  alias_count := w.alias_count
  edges := by
    have he := w.edges
    have ho := ho.edges
    simp only [ShadeEntry.combine]
    omega
  v_range := (Nat.min_le_left _ _).trans w.v_range
  hold_range := hh
  active_veff _ := rfl
  hold_veff := nofun
  fading_veff := nofun

theorem EntryWf.coalesce (w : EntryWf e) (hh : hold ≤ 255) (ho : o.InRange) :
    EntryWf (e.coalesce hold o) := by
  refine { w.combine hh ho with alias_range := ?_, alias_count := ?_ }
  · intro a ha
    simp only [ShadeEntry.coalesce] at ha
    split at ha
    · obtain ha | ha := List.mem_append.1 ha
      · exact w.alias_range a ha
      · rw [List.mem_singleton.1 ha]
        exact ho.id_range
    · exact w.alias_range a ha
  · simp only [ShadeEntry.coalesce]
    split
    · simpa using ‹_›
    · exact w.alias_count

end

/-! ## Steps 2 and 3 -/

theorem WorkEntry.matchedBy_wf {hold : Nat} {o : ShadeObject} {w : WorkEntry} (hh : hold ≤ 255)
    (ho : o.InRange) (h : EntryWf w.entry) : EntryWf (w.matchedBy hold o).entry := by
  unfold WorkEntry.matchedBy
  cases w.matched
  · exact h.take hh ho
  · exact h.combine hh ho

/-- Matching keeps the entries' number, soundness and ids, and leaves the objects whose id reaches none. -/
theorem matchObjects_keeps {hold : Nat} (hh : hold ≤ 255) (os : List ShadeObject) (ws : List WorkEntry)
    (ho : ∀ o ∈ os, o.InRange) (hw : ∀ w ∈ ws, EntryWf w.entry) :
    (matchObjects hold os ws).1.length = ws.length ∧
      (∀ w ∈ (matchObjects hold os ws).1, EntryWf w.entry) ∧
      tableIds ((matchObjects hold os ws).1.map WorkEntry.entry) = tableIds (ws.map WorkEntry.entry) ∧
      ∀ o ∈ (matchObjects hold os ws).2, o.id ∉ tableIds (ws.map WorkEntry.entry) := by
  induction os generalizing ws with
  | nil => exact ⟨rfl, hw, rfl, nofun⟩
  | cons o rest ih =>
    obtain ⟨hor, hrest⟩ := List.forall_mem_cons.1 ho
    obtain ⟨hno, e⟩ | ⟨before, w, after, rfl, -, -, e⟩ := matchObject_cases hold o ws
    · obtain ⟨hlen, hwf, hids, hleft⟩ := ih ws hrest hw
      rw [matchObjects_of_none rest e]
      refine ⟨hlen, hwf, hids, List.forall_mem_cons.2 ⟨fun hm => ?_, hleft⟩⟩
      obtain ⟨x, hx, hox⟩ := List.mem_flatMap.1 hm
      obtain ⟨y, hy, rfl⟩ := List.mem_map.1 hx
      exact hno y hy hox
    · have hw' : ∀ x ∈ before ++ w.matchedBy hold o :: after, EntryWf x.entry := by
        simp only [List.mem_append, List.mem_cons] at hw ⊢
        rintro x (hx | rfl | hx)
        · exact hw x (.inl hx)
        · exact WorkEntry.matchedBy_wf hh hor (hw w (.inr (.inl rfl)))
        · exact hw x (.inr (.inr hx))
      have hids' : tableIds ((before ++ w.matchedBy hold o :: after).map WorkEntry.entry) =
          tableIds ((before ++ w :: after).map WorkEntry.entry) := by
        simp only [List.map_append, List.map_cons, tableIds_append, tableIds_cons,
          WorkEntry.matchedBy_ids]
      rw [matchObjects_of_some rest e, ← hids']
      simpa using ih _ hrest hw'

/-- Step 3 takes entries out and keeps ids. -/
theorem releaseUnmatched_wf {hold : Nat} (hh : hold ≤ 255) {ws : List WorkEntry} (hlen : ws.length ≤ 16)
    (hw : ∀ w ∈ ws, EntryWf w.entry) (hids : (tableIds (ws.map WorkEntry.entry)).Nodup) :
    EntriesWf (releaseUnmatched hold ws) ∧
      ∀ n ∈ tableIds (releaseUnmatched hold ws), n ∈ tableIds (ws.map WorkEntry.entry) := by
  have keeps (w : WorkEntry) (x : ShadeEntry)
      (h : (if w.matched = true then some w.entry else w.entry.release hold) = some x) :
      x.ids = w.entry.ids ∧ (EntryWf w.entry → EntryWf x) := by
    split at h
    · cases h
      exact ⟨rfl, id⟩
    · obtain ⟨hi, -, hwf⟩ := keepsEntries_release hh _ _ h
      exact ⟨hi, hwf⟩
  have hsub := tableIds_filterMap (fun w x h => (keeps w x h).1) ws
  refine ⟨⟨(List.length_filterMap_le _ _).trans hlen, fun x hx => ?_, hsub.nodup hids⟩,
    fun n hn => hsub.subset hn⟩
  obtain ⟨w, hm, h⟩ := List.mem_filterMap.1 hx
  exact (keeps w x h).2 (hw w hm)

/-! ## Step 4 -/

/-- Placing an object adds its id at most. -/
theorem placeObject_ids (hold : Nat) (p : Placement) (o : ShadeObject) :
    (tableIds (placeObject hold p o).entries).Subperm (o.id :: tableIds p.entries) := by
  have new : (entryOfObject hold o).ids = [o.id] := rfl
  obtain ⟨-, e⟩ | ⟨before, y, after, hes, -, e⟩ | ⟨before, y, after, hes, -, e⟩ :=
    placeObject_cases hold p o <;> rw [e]
  · simp only [tableIds_append, tableIds_cons, new]
    exact (List.perm_append_singleton _ _).subperm
  · simp only [hes, tableIds_append, tableIds_cons, new]
    refine (List.perm_middle.subperm).trans (List.Sublist.subperm ?_)
    exact ((List.sublist_append_right y.ids (tableIds after)).append_left (tableIds before)).cons_cons o.id
  · simp only [hes, tableIds_append, tableIds_cons]
    have hcoalesce : (y.coalesce hold o).ids.Sublist (y.ids ++ [o.id]) := by
      simp only [ShadeEntry.ids, ShadeEntry.coalesce, ShadeEntry.combine]
      split
      · exact List.Sublist.refl _
      · exact List.sublist_append_left _ _
    refine (List.Sublist.subperm ((hcoalesce.append_right (tableIds after)).append_left
      (tableIds before))).trans (List.Perm.subperm ?_)
    simpa using List.perm_middle (l₁ := tableIds before ++ y.ids)

theorem placeObject_wf {hold : Nat} (hh : hold ≤ 255) {p : Placement} {o : ShadeObject}
    (hp : EntriesWf p.entries) (ho : o.InRange) (hnew : o.id ∉ tableIds p.entries) :
    EntriesWf (placeObject hold p o).entries := by
  have honce : (tableIds (placeObject hold p o).entries).Nodup := by
    obtain ⟨l, hperm, hsub⟩ := placeObject_ids hold p o
    exact hperm.nodup_iff.1 (hsub.nodup (List.nodup_cons.2 ⟨hnew, hp.ids_once⟩))
  have new := entryWf_entryOfObject hh ho
  have hlen := hp.capacity
  obtain ⟨hroom, e⟩ | ⟨before, y, after, hes, -, e⟩ | ⟨before, y, after, hes, -, e⟩ :=
    placeObject_cases hold p o <;> rw [e] at honce ⊢
  · refine ⟨?_, fun x hx => ?_, honce⟩
    · simpa using hroom
    · obtain hx | hx := List.mem_append.1 hx
      · exact hp.entries x hx
      · rwa [List.mem_singleton.1 hx]
  · refine ⟨by simpa [hes] using hlen, fun x hx => ?_, honce⟩
    obtain rfl | hx : x = entryOfObject hold o ∨ x ∈ before ++ y :: after := by
      simp only [List.mem_append, List.mem_cons] at hx ⊢
      tauto
    · exact new
    · exact hp.entries x (hes ▸ hx)
  · refine ⟨by simpa [hes] using hlen, fun x hx => ?_, honce⟩
    obtain rfl | hx : x = y.coalesce hold o ∨ x ∈ before ++ y :: after := by
      simp only [List.mem_append, List.mem_cons] at hx ⊢
      tauto
    · exact (hp.entries y (by simp [hes])).coalesce hh ho
    · exact hp.entries x (hes ▸ hx)

theorem placeObjects_wf {hold : Nat} (hh : hold ≤ 255) {os : List ShadeObject} {p : Placement}
    (hp : EntriesWf p.entries) (ho : ∀ o ∈ os, o.InRange)
    (hnew : ∀ o ∈ os, o.id ∉ tableIds p.entries) (honce : (os.map ShadeObject.id).Nodup) :
    EntriesWf (os.foldl (placeObject hold) p).entries := by
  induction os generalizing p with
  | nil => exact hp
  | cons o rest ih =>
    obtain ⟨hor, hrest⟩ := List.forall_mem_cons.1 ho
    obtain ⟨hno, hnr⟩ := List.forall_mem_cons.1 hnew
    obtain ⟨hother, honce⟩ := List.nodup_cons.1 honce
    refine ih (placeObject_wf hh hp hor hno) hrest (fun x hx hm => ?_) honce
    obtain hm | hm := List.mem_cons.1 ((placeObject_ids hold p o).subset hm)
    · exact hother (hm ▸ List.mem_map_of_mem hx)
    · exact hnr x hx hm

/-! ## The merge and every step -/

/-- A merge of a list of objects as sent leaves a sound table. -/
theorem mergeList_wf {hold : Nat} (hh : hold ≤ 255) (payload : List Byte) {table : List ShadeEntry}
    (h : TableWf table) : TableWf (mergeList hold (readObjects payload) table).table := by
  have hids : tableIds ((table.map fun e => (⟨e, false⟩ : WorkEntry)).map WorkEntry.entry) =
      tableIds table := by
    rw [List.map_map]
    exact congrArg tableIds (List.map_id table)
  obtain ⟨hlen, hwf, hkept, hleft⟩ := matchObjects_keeps hh
    (validateObjects [] (readObjects payload)).objects (table.map fun e => ⟨e, false⟩)
    (fun o => validObject_inRange) (by simpa using h.entries)
  have hsub := matchObjects_sublist hold (validateObjects [] (readObjects payload)).objects
    (table.map fun e => ⟨e, false⟩)
  rw [hids] at hkept hleft
  obtain ⟨hreleased, hrids⟩ := releaseUnmatched_wf hh (by simpa [hlen] using h.capacity) hwf
    (hkept ▸ h.ids_once)
  refine EntriesWf.sorted (placeObjects_wf hh hreleased (fun o ho => validObject_inRange (hsub.subset ho))
    (fun o ho hm => hleft o ho (hkept ▸ hrids _ hm)) ?_)
  exact (hsub.map _).nodup (validateObjects_ids [] _).1

/-- A frame start ages the table or leaves it (R19). -/
theorem tableWf_frameStart {s : State} (h : TableWf s.shades.table) :
    TableWf s.frameStart.shades.table := by
  obtain ⟨-, e⟩ | ⟨-, e⟩ := s.frameStart_cases <;> rw [e]
  · have haged : TableWf (ageTable s.params.fadeStep s.shades.table) :=
      h.filterMap (keepsEntries_age _)
    simp only [State.beginComposition_keeps, State.serveSnapshot, State.timed]
    split <;> simpa using haged
  · simpa [State.timed] using h

theorem State.freshnessExpiry_table (p : Port) (s : State) :
    (s.freshnessExpiry p).shades.table = s.shades.table ∨
      (s.freshnessExpiry p).shades.table =
        s.shades.table.filterMap (ShadeEntry.release s.params.holdFrames) := by
  unfold State.freshnessExpiry
  split
  · cases p <;> simp [State.tellDependents, State.shadesStale, State.motionStale]
  · exact .inl rfl

/-- The Shade Table is sound and hold_frames in its range: kept by every effect. -/
theorem keptByEffects_shadeInv :
    KeptByEffects fun s => s.params.holdFrames ≤ 255 ∧ TableWf s.shades.table where
  shadeList s payload h := by
    refine ⟨by simpa using h.1, ?_⟩
    simp only [State.serveShadeList]
    split
    · have hmerge := mergeList_wf h.1 payload h.2
      simp only [State.applyMerge]
      split <;> simpa using hmerge
    · exact h.2
  configWrite s payload h :=
    ⟨serveConfigWrite_get_le (q := .holdFrames) payload (by decide) h.1, by simpa using h.2⟩
  startRun s _ h := by
    refine ⟨by simpa using h.1, ?_⟩
    rw [State.startRun_eq]
    exact tableWf_frameStart (by simpa using h.2)
  stopRun s h := by simpa [ShadeManager.cleared] using ⟨h.1, tableWf_nil⟩
  restartPart s h := by simpa [ShadeManager.cleared] using ⟨h.1, tableWf_nil⟩
  freshnessExpiry s p h := by
    refine ⟨by simpa using h.1, ?_⟩
    obtain e | e := s.freshnessExpiry_table p <;> rw [e]
    · exact h.2
    · exact h.2.filterMap (keepsEntries_release h.1)
  frameTimerExpiry s h := by
    refine ⟨by simpa using h.1, ?_⟩
    obtain ⟨-, e⟩ | ⟨-, e⟩ := s.frameTimerExpiry_cases <;> rw [e]
    · exact h.2
    · exact tableWf_frameStart h.2
  hardReset _ _ := ⟨(by decide : State.reset.params.holdFrames ≤ 255), tableWf_nil⟩

/-- Settles O24: a merge places objects of ids not yet in the table, and release and aging take entries out or change them in place. -/
theorem stepsKeepTheShadeTableSound : Obligations.StepsKeepTheShadeTableSound :=
  fun _ _ hs ht => keptByEffects_shadeInv.step (fun _ _ h => h) hs ht

end Sys2Proof.Machine
end

section
/-! PROOF. The level follows the records, the records their owners but for that of the VIS port, and the tell-tale the level (R118, R119, R129, R130). -/

namespace Sys2Proof.Machine

/-! ## The tell-tale driver (R129, R130) -/

/-- The shown pattern is the requested one but for a held OFF, a first ON phase is an ON phase, and the phase timer is that of the shown pattern. -/
structure TellDriver.Sound (t : TellDriver) : Prop where
  shown : t.shown = t.requested ∨ (t.requested = .off ∧ t.shown.blinks = true ∧ t.firstOn = true)
  firstOn : t.firstOn = true → t.phaseOn = true
  timer : t.timer = blinkHalf t.shown

/-- A pattern that is shown at once is shown soundly where it is the requested one. -/
theorem TellDriver.sound_show (t : TellDriver) (next : Bool) {x : TellPattern} (h : t.requested = x) :
    (t.show next x).Sound where
  shown := .inl h.symm
  firstOn := by
    cases x
    case off => exact nofun
    all_goals exact fun _ => rfl
  timer := rfl

theorem TellDriver.Sound.request {t : TellDriver} (h : t.Sound) (next : Bool) (x : TellPattern) :
    (t.request next x).Sound := by
  unfold TellDriver.request
  split
  · exact h
  · split
    · rename_i hheld
      exact { h with shown := .inr ⟨rfl, hheld.2⟩ }
    · split
      · rename_i hback
        exact { h with shown := .inl hback.2 }
      · exact TellDriver.sound_show _ next rfl

theorem TellDriver.Sound.expire {t : TellDriver} (h : t.Sound) : t.expire.Sound := by
  unfold TellDriver.expire
  split
  · split
    · exact t.sound_show false ‹_›
    · rename_i hoff
      exact
        { shown := .inl (h.shown.resolve_right fun hheld => hoff hheld.1)
          firstOn := nofun
          timer := rfl }
  · exact h

/-- The requested pattern does not change at an expiry. -/
theorem TellDriver.expire_requested (t : TellDriver) : t.expire.requested = t.requested := by
  unfold TellDriver.expire
  split
  · split <;> rfl
  · rfl

/-! ## The level (R118, R119) -/

/-- The records give NORMAL exactly in RUN with nothing against it (R118). -/
theorem Supervisor.computed_normal (x : Supervisor) :
    x.computed = .normal ↔
      (x.recDevice = .run ∧ x.safeLatch = false ∧ x.recVisFresh = true ∧ x.recSource = .chassis ∧
        x.recDisagree = false ∧ x.clock.state = .ref) := by
  unfold Supervisor.computed
  split
  · rename_i h
    rcases h with h | h <;> simp [h]
  · split
    · simp_all
    · split
      · rename_i hagainst
        refine iff_of_false nofun fun hnone => ?_
        obtain ⟨-, -, -, hs, hd, hc⟩ := hnone
        simp [hs, hd, hc] at hagainst
      · simp_all

/-- The level is the one that the records give, the tell-tale follows it, and the records of the device state, the held source and DISAGREE are those given. -/
structure LevelTrue (x : Supervisor) (d : Device) (src : Source) (dis : Bool) : Prop where
  device : x.recDevice = d
  source : x.recSource = src
  agreement : x.recDisagree = dis
  level : x.level = x.computed
  requested : x.tell.requested = patternOfLevel x.level
  tell : x.tell.Sound

section
variable {d : Device} {src : Source} {dis : Bool}

/-- A recomputation makes the level true again, whatever the records became. -/
theorem levelTrue_recompute {s : State} (hd : s.supervisor.recDevice = d)
    (hs : s.supervisor.recSource = src) (ha : s.supervisor.recDisagree = dis)
    (hr : s.supervisor.tell.requested = patternOfLevel s.supervisor.level)
    (ht : s.supervisor.tell.Sound) : LevelTrue s.recompute.supervisor d src dis := by
  obtain ⟨he, e⟩ | ⟨-, e⟩ := s.recompute_cases <;> rw [e]
  · exact ⟨hd, hs, ha, he.symm, hr, ht⟩
  · exact ⟨hd, hs, ha, rfl, TellDriver.requested_request _ _ _, ht.request _ _⟩

theorem LevelTrue.reportVisFresh {s : State} (h : LevelTrue s.supervisor d src dis) (b : Bool) :
    LevelTrue (s.reportVisFresh b).supervisor d src dis :=
  levelTrue_recompute h.device h.source h.agreement h.requested h.tell

theorem LevelTrue.reportVisChange {s : State} (h : LevelTrue s.supervisor d src dis) (b : Bool) :
    LevelTrue (s.reportVisChange b).supervisor d src dis := by
  unfold State.reportVisChange
  split
  · exact h
  · exact h.reportVisFresh b

theorem LevelTrue.takeVisReport {s : State} (h : LevelTrue s.supervisor d src dis)
    (due : Option Bool) (place i : Nat) :
    LevelTrue (State.takeVisReport due place i s).supervisor d src dis := by
  unfold State.takeVisReport
  split
  · split
    · exact h.reportVisFresh _
    · exact h
  · exact h

theorem LevelTrue.reportDevice {s : State} (h : LevelTrue s.supervisor d src dis) (d' : Device)
    (b : Bool) : LevelTrue (s.reportDevice d' b).supervisor d' src dis :=
  levelTrue_recompute rfl h.source h.agreement h.requested h.tell

end

/-- The level is true of the state's own device state, held source and DISAGREE. -/
def State.LevelTrue (s : State) : Prop :=
  Machine.LevelTrue s.supervisor s.device s.steering.source s.steering.disagree

theorem State.levelTrue_recompute {s : State} (hd : s.supervisor.recDevice = s.device)
    (hs : s.supervisor.recSource = s.steering.source)
    (ha : s.supervisor.recDisagree = s.steering.disagree)
    (hr : s.supervisor.tell.requested = patternOfLevel s.supervisor.level)
    (ht : s.supervisor.tell.Sound) : s.recompute.LevelTrue := by
  simpa [State.LevelTrue] using Machine.levelTrue_recompute hd hs ha hr ht

theorem State.LevelTrue.queryPlausibility {s : State} (h : s.LevelTrue) :
    s.queryPlausibility.LevelTrue := by
  have runs (b : Bool) :
      (runsAfter b s.steering).source = s.steering.source ∧
        (runsAfter b s.steering).disagree = s.steering.disagree := by
    cases b <;> exact ⟨rfl, rfl⟩
  obtain ⟨hsrc, hdis⟩ := runs s.sourcesDiffer
  have moved (b : Bool) :
      (({ s with steering := runsAfter s.sourcesDiffer s.steering } : State).moveDisagree b).LevelTrue :=
    State.levelTrue_recompute h.device (h.source.trans hsrc.symm) rfl h.requested h.tell
  simp only [State.queryPlausibility]
  split
  · split
    · exact moved true
    · split
      · exact moved false
      · simpa only [State.LevelTrue, hsrc, hdis] using h
  · exact h

theorem State.LevelTrue.holdSource {s : State} (h : s.LevelTrue) (x : Source) :
    (s.holdSource x).LevelTrue := by
  unfold State.holdSource
  split
  · exact h
  · exact State.levelTrue_recompute h.device rfl h.agreement h.requested h.tell

theorem State.LevelTrue.takeVisReport {s : State} (h : s.LevelTrue) (due : Option Bool)
    (place i : Nat) : (State.takeVisReport due place i s).LevelTrue := by
  simpa [State.LevelTrue] using Machine.LevelTrue.takeVisReport h due place i

theorem State.LevelTrue.askOwners {s : State} (h : s.LevelTrue) : s.askOwners.after.LevelTrue := by
  have hsnapshot : s.serveSnapshot.LevelTrue := by simpa [State.LevelTrue] using h
  exact (((hsnapshot.takeVisReport _ _ 0).queryPlausibility.takeVisReport _ _ 1).holdSource _).takeVisReport
    _ _ 2

theorem State.LevelTrue.frameStart {s : State} (h : s.LevelTrue) : s.frameStart.LevelTrue := by
  obtain ⟨-, e⟩ | ⟨-, e⟩ := s.frameStart_cases <;> rw [e]
  · exact State.LevelTrue.askOwners (s := s.timed) h
  · simp only [State.skipFrame]
    split
    · exact State.levelTrue_recompute h.device h.source h.agreement h.requested h.tell
    · exact h

theorem State.LevelTrue.reportDevice {s : State} (h : s.LevelTrue) (d : Device) (b : Bool) :
    ({ s with device := d }.reportDevice d b).LevelTrue :=
  State.levelTrue_recompute rfl h.source h.agreement h.requested h.tell

theorem State.LevelTrue.closeWindow {s : State} (h : s.LevelTrue) : s.closeWindow.LevelTrue := by
  simp only [State.closeWindow]
  split
  · exact h
  · split
    · rename_i hsame
      refine ⟨h.device, h.source, h.agreement, h.level.trans ?_, h.requested, h.tell⟩
      simp only [Supervisor.computed, hsame]
    · exact State.levelTrue_recompute h.device h.source h.agreement h.requested h.tell

theorem State.LevelTrue.expireTellPhase {s : State} (h : s.LevelTrue) : s.expireTellPhase.LevelTrue := by
  have expired := h.tell.expire
  have asked := s.supervisor.tell.expire_requested.trans h.requested
  simp only [State.expireTellPhase]
  split
  · split
    · exact { h with tell := { h.tell with } }
    · exact { h with requested := asked, tell := { expired with } }
  · exact { h with requested := asked, tell := expired }

/-! ## The held source and DISAGREE (R37, R42) -/

@[simp] theorem limitTest_source (limit : Nat) (x : Steering) :
    (limitTest limit x).source = x.source ∧ (limitTest limit x).disagree = x.disagree := by
  unfold limitTest
  split <;> exact ⟨rfl, rfl⟩

@[simp] theorem Steering.setLine_source (x : Steering) (line : EncoderLine) (edge : Edge) :
    (x.setLine line edge).source = x.source ∧ (x.setLine line edge).disagree = x.disagree := by
  cases line <;> exact ⟨rfl, rfl⟩

@[simp] theorem State.serveMotion_source (payload : List Byte) (s : State) :
    (s.serveMotion payload).1.steering.source = s.steering.source ∧
      (s.serveMotion payload).1.steering.disagree = s.steering.disagree := by
  unfold State.serveMotion
  split <;> exact ⟨rfl, rfl⟩

@[simp] theorem State.serveConfigWrite_source (payload : List Byte) (s : State) :
    (s.serveConfigWrite payload).1.steering.source = s.steering.source ∧
      (s.serveConfigWrite payload).1.steering.disagree = s.steering.disagree := by
  simp only [State.serveConfigWrite, State.raise_steering]
  split <;> simp

@[simp] theorem State.encoderEdge_source (line : EncoderLine) (edge : Edge) (s : State) :
    (s.encoderEdge line edge).steering.source = s.steering.source ∧
      (s.encoderEdge line edge).steering.disagree = s.steering.disagree := by
  simp only [State.encoderEdge]
  split
  · simp
  · split <;> simp

@[simp] theorem State.encoderIndex_source (s : State) :
    s.encoderIndex.steering.source = s.steering.source ∧
      s.encoderIndex.steering.disagree = s.steering.disagree := by
  simp only [State.encoderIndex]
  split <;> exact ⟨rfl, rfl⟩

@[simp] theorem State.freshnessExpiry_source (p : Port) (s : State) :
    (s.freshnessExpiry p).steering.source = s.steering.source ∧
      (s.freshnessExpiry p).steering.disagree = s.steering.disagree := by
  unfold State.freshnessExpiry
  split
  · cases p <;> simp [State.tellDependents, State.shadesStale, State.motionStale]
  · exact ⟨rfl, rfl⟩

/-! ## Every effect keeps it -/

theorem State.LevelTrue.refresh {s : State} (h : s.LevelTrue) (p : Port) : (s.refresh p).LevelTrue := by
  have noted : ((s.onPort p fun x =>
      { x with fresh := true, freshTimer := some (s.params.timeout p) }).notify .stale).LevelTrue := h
  simp only [State.refresh]
  split
  · exact h
  · cases p
    · simpa [State.LevelTrue] using Machine.LevelTrue.reportVisChange noted true
    · exact noted
    · exact noted

theorem State.LevelTrue.freshnessExpiry {s : State} (h : s.LevelTrue) (p : Port) :
    (s.freshnessExpiry p).LevelTrue := by
  unfold State.freshnessExpiry
  split
  · cases p
    · have told := Machine.LevelTrue.reportVisChange
        (s := ((s.onPort .vis fun x => { x with fresh := false, freshTimer := none }).notify
          .stale).shadesStale) h false
      simpa [State.LevelTrue, State.tellDependents, State.shadesStale] using told
    · exact h
    · simpa [State.LevelTrue, State.tellDependents] using h
  · exact h

theorem State.LevelTrue.restartPart {s : State} (h : s.LevelTrue) : s.restartPart.LevelTrue :=
  State.levelTrue_recompute rfl rfl rfl h.requested h.tell

theorem State.LevelTrue.endOfBoot {s : State} (h : s.LevelTrue) : s.endOfBoot.LevelTrue := by
  unfold State.endOfBoot
  split
  · exact State.levelTrue_recompute rfl h.source h.agreement h.requested h.tell
  · exact h

theorem State.LevelTrue.countReference {s : State} (h : s.LevelTrue) : s.countReference.LevelTrue := by
  unfold State.countReference
  split
  · exact h
  · exact { h with }

/-- A hard reset leaves the level at SAFE, the records and the tell-tale with it (R132). -/
theorem State.levelTrue_hardReset (s : State) : s.hardReset.LevelTrue where
  device := rfl
  source := rfl
  agreement := rfl
  level := (by decide : Supervisor.reset.level = Supervisor.reset.computed)
  requested := rfl
  tell := { shown := .inl rfl, firstOn := fun _ => rfl, timer := rfl }

/-- The level is true of the state: kept by every effect. -/
theorem keptByEffects_levelTrue :
    KeptByEffects fun s => LevelTrue s.supervisor s.device s.steering.source s.steering.disagree where
  refresh s p h := State.LevelTrue.refresh (s := s) h p
  startRun s _ h := (State.LevelTrue.reportDevice (s := s) h .run false).frameStart
  stopRun s h := State.levelTrue_recompute (s := { s.halted with supervisor := _ }) rfl h.source h.agreement h.requested h.tell
  restartPart s h := State.LevelTrue.restartPart h
  freshnessExpiry s p h := State.LevelTrue.freshnessExpiry (s := s) h p
  frameTimerExpiry s h := by
    obtain ⟨-, e⟩ | ⟨-, e⟩ := s.frameTimerExpiry_cases <;> rw [e]
    · exact h
    · exact State.LevelTrue.frameStart (s := s) h
  closeWindow s h := State.LevelTrue.closeWindow (s := s) h
  expireTellPhase s h := State.LevelTrue.expireTellPhase (s := s) h
  endOfBoot s h := State.LevelTrue.endOfBoot (s := s) h
  countReference s h := State.LevelTrue.countReference (s := s) h
  hardReset s _ := s.levelTrue_hardReset

end Sys2Proof.Machine
end

section
/-! PROOF. What a command does, by cases: a frame that reaches its owner, a change of a link alone, or an event of the part (R146, R150, R151). -/

namespace Sys2Proof.Machine

/-! ## A change of a link alone -/

/-- One port's receiver, queue, counters or marks changed, and the count of free values: its freshness stays, and so do all owners. -/
def LinkStep (s t : State) : Prop :=
  ∃ (p : Port) (g : PortState → PortState) (n : Nat),
    (∀ x, (g x).fresh = x.fresh ∧ (g x).freshTimer = x.freshTimer) ∧
      t = { s.onPort p g with choices := n }

theorem linkStep_self (s : State) : LinkStep s s :=
  ⟨.vis, id, s.choices, fun _ => ⟨rfl, rfl⟩, by simp [State.onPort]⟩

theorem linkStep_onPort {s : State} (p : Port) {g : PortState → PortState}
    (h : ∀ x, (g x).fresh = x.fresh ∧ (g x).freshTimer = x.freshTimer) : LinkStep s (s.onPort p g) :=
  ⟨p, g, s.choices, h, rfl⟩

/-- The link fields of a port decide its freshness. -/
theorem fresh_of_link {x y : PortState} (h : x.link = y.link) : x.fresh = y.fresh := by
  change x.link.fresh = y.link.fresh
  rw [h]

theorem link_of_links {s t : State} (h : t.ports.map PortState.link = s.ports.map PortState.link)
    (p : Port) : (t.ports.get p).link = (s.ports.get p).link := by
  simpa only [PerPort.get_map] using congrArg (fun x => PerPort.get x p) h

theorem fresh_of_links {s t : State} (h : t.ports.map PortState.link = s.ports.map PortState.link)
    (p : Port) : (t.ports.get p).fresh = (s.ports.get p).fresh :=
  fresh_of_link (link_of_links h p)

/-- What a change of a link leaves: every block but the ports, and the freshness of each port. -/
theorem LinkStep.keeps {s t : State} (h : LinkStep s t) :
    t.device = s.device ∧ t.params = s.params ∧ t.shades = s.shades ∧ t.steering = s.steering ∧
      t.patterns = s.patterns ∧ t.beam = s.beam ∧ t.engine = s.engine ∧ t.output = s.output ∧
      t.supervisor = s.supervisor ∧ t.pending = s.pending ∧
      ∀ p, (t.ports.get p).fresh = (s.ports.get p).fresh := by
  obtain ⟨p, g, n, hg, rfl⟩ := h
  refine ⟨rfl, rfl, rfl, rfl, rfl, rfl, rfl, rfl, rfl, rfl, fun q => ?_⟩
  by_cases hq : q = p
  · subst hq
    simpa using (hg _).1
  · simp [PerPort.get_set_of_ne _ _ hq]

theorem LinkStep.keeps_fresh {s t : State} (h : LinkStep s t) (p : Port) :
    (t.ports.get p).fresh = (s.ports.get p).fresh := by
  obtain ⟨-, -, -, -, -, -, -, -, -, -, hf⟩ := h.keeps
  exact hf p

/-! ## A frame -/

/-- The owner's answer as a port's reply: the state after the owner of kind `k` has served a frame in the request slot, with the reply placed. -/
def State.afterServe (v : StatusOwner → State) (k : RequestKind) (p : Port) (f : Frame) (s : State) :
    State :=
  ((s.taking p f).serve v k p f.payload).1.onPort p
    (PortState.placeReply f ((s.taking p f).serve v k p f.payload).2)

theorem State.kindReached_of_not_canTake {s : State} {p : Port} (f : Frame) (h : ¬s.canTake p) :
    s.kindReached p f = none := by
  refine if_pos ?_
  simpa only [State.canTake, not_and_or, not_not, not_lt] using h

theorem State.kindReached_of_canTake {s : State} {p : Port} (f : Frame) (h : s.canTake p) :
    s.kindReached p f =
      (RequestKind.ofCode f.kind).filter fun k => k.permitted p && k.lenAllowed f.payload.length := by
  refine if_neg ?_
  simpa only [State.canTake, not_or, not_le] using h

/-- A frame that no owner takes, refused by a dispatch check or dropped or lost, changes its port's link alone. -/
theorem State.linkStep_of_not_reached (v : StatusOwner → State) {p : Port} {f : Frame} {s : State}
    (h : s.kindReached p f = none) : LinkStep s (s.takeFrameReading v p f) := by
  by_cases hs : s.canTake p
  · rw [State.takeFrameReading_of_canTake v f hs]
    rw [State.kindReached_of_canTake f hs, Option.filter_eq_none_iff] at h
    have refused (r : List Byte)
        (hd : (s.onPort p fun x => { x.frameIn with slot := some f }).dispatch v p f =
          (s.onPort p fun x => { x.frameIn with slot := some f }, r)) :
        LinkStep s (((s.onPort p fun x => { x.frameIn with slot := some f }).dispatch v p f).1.onPort p
          (PortState.placeReply f
            ((s.onPort p fun x => { x.frameIn with slot := some f }).dispatch v p f).2)) := by
      rw [hd]
      refine ⟨p, fun x => PortState.placeReply f r { x.frameIn with slot := some f }, s.choices,
        fun _ => ⟨rfl, rfl⟩, ?_⟩
      simp [State.onPort]
    cases hk : RequestKind.ofCode f.kind with
    | none => exact refused _ (by simp only [State.dispatch, hk]; rfl)
    | some k =>
      have hno := h k hk
      by_cases hp : k.permitted p = true
      · have hl : k.lenAllowed f.payload.length = false := by simpa [hp] using hno
        exact refused _ (by simp only [State.dispatch, hk, hp, hl]; rfl)
      · have hp' : k.permitted p = false := by simpa using hp
        exact refused _ (by simp only [State.dispatch, hk, hp']; rfl)
  · by_cases hb : s.device = .boot
    · simp only [State.takeFrameReading, if_pos hb]
      exact linkStep_self s
    · have hq : Config.queueCapacity ≤ ((s.onPort p PortState.frameIn).ports.get p).places := by
        have hfull : Config.queueCapacity ≤ (s.ports.get p).places := by
          simpa only [State.canTake, hb, ne_eq, not_false_eq_true, true_and, not_lt] using hs
        rw [State.onPort_ports, PerPort.get_set_self]
        exact hfull
      simp only [State.takeFrameReading, if_neg hb, if_pos hq]
      refine ⟨p, fun x => x.frameIn.drop, s.choices, fun _ => ⟨rfl, rfl⟩, ?_⟩
      simp [State.onPort]

/-- A frame reaches the owner of its kind, or changes its port's link alone. -/
theorem State.takeFrameReading_cases (v : StatusOwner → State) (p : Port) (f : Frame) (s : State) :
    (s.kindReached p f = none ∧ LinkStep s (s.takeFrameReading v p f)) ∨
      ∃ k, s.kindReached p f = some k ∧ s.canTake p ∧ RequestKind.ofCode f.kind = some k ∧
        k.permitted p = true ∧ k.lenAllowed f.payload.length = true ∧
        s.takeFrameReading v p f = s.afterServe v k p f := by
  cases h : s.kindReached p f with
  | none => exact .inl ⟨rfl, State.linkStep_of_not_reached v h⟩
  | some k =>
    have hs : s.canTake p := by
      by_contra hn
      rw [State.kindReached_of_not_canTake f hn] at h
      cases h
    have hkind := h
    rw [State.kindReached_of_canTake f hs, Option.filter_eq_some_iff, Bool.and_eq_true] at hkind
    obtain ⟨hk, hp, hl⟩ := hkind
    refine .inr ⟨k, rfl, hs, hk, hp, hl, ?_⟩
    rw [State.takeFrameReading_of_canTake v f hs, State.dispatch_of_served v _ hk hp hl]
    rfl

/-! ## A character (R146) -/

/-- A character that a receiver takes completes a frame, or changes the link alone. -/
theorem State.assemble_cases (v : StatusOwner → State) (p : Port) (c : Byte) (s : State) :
    (∃ tag kind taken high,
        (s.ports.get p).receiver = .checkLow tag kind taken high ∧
          crcPasses ⟨tag, kind, taken⟩ high c = true ∧
          s.assemble v p c = s.takeFrameReading v p ⟨tag, kind, taken⟩) ∨
      ((∀ tag kind taken high,
          (s.ports.get p).receiver = .checkLow tag kind taken high →
            crcPasses ⟨tag, kind, taken⟩ high c = false) ∧
        ∃ g : PortState → PortState, s.assemble v p c = s.onPort p g ∧
          ∀ x, (g x).fresh = x.fresh ∧ (g x).freshTimer = x.freshTimer) := by
  have same : s = s.onPort p id := by simp [State.onPort]
  unfold State.assemble
  split
  case h_7 tag kind taken high hr =>
    by_cases hc : crcPasses ⟨tag, kind, taken⟩ high c = true
    · exact .inl ⟨tag, kind, taken, high, hr, hc, if_pos hc⟩
    · refine .inr ⟨fun a b d e he => ?_, _, if_neg hc, fun _ => ⟨rfl, rfl⟩⟩
      obtain ⟨rfl, rfl, rfl, rfl⟩ := Receiver.checkLow.inj (hr.symm.trans he)
      exact Bool.not_eq_true _ ▸ hc
  all_goals
    rename_i hr
    refine .inr ⟨fun a b d e he => ?_, ?_⟩
    · rw [hr] at he
      cases he
  · split
    · exact ⟨_, rfl, fun _ => ⟨rfl, rfl⟩⟩
    · exact ⟨id, same, fun _ => ⟨rfl, rfl⟩⟩
  · exact ⟨_, rfl, fun _ => ⟨rfl, rfl⟩⟩
  · exact ⟨_, rfl, fun _ => ⟨rfl, rfl⟩⟩
  · split
    · exact ⟨_, rfl, fun _ => ⟨rfl, rfl⟩⟩
    · split <;> exact ⟨_, rfl, fun _ => ⟨rfl, rfl⟩⟩
  · split <;> exact ⟨_, rfl, fun _ => ⟨rfl, rfl⟩⟩
  · exact ⟨_, rfl, fun _ => ⟨rfl, rfl⟩⟩

/-- A character completes the frame that `completedFrame` names, or changes the link alone. -/
theorem State.takeCharacter_cases (p : Port) (c : Byte) (s : State) :
    (∃ q f v, s.completedFrame (.characterReceived p c) = some (q, f) ∧
        s.takeCharacter p c = s.takeFrameReading v q f) ∨
      (s.completedFrame (.characterReceived p c) = none ∧ LinkStep s (s.takeCharacter p c)) := by
  by_cases hb : s.device = .boot
  · have hlost : s.takeCharacter p c = s := by
      simp only [State.takeCharacter, State.takeCharacterReading, if_pos hb]
    rw [hlost]
    cases hf : s.completedFrame (.characterReceived p c) with
    | none => exact .inr ⟨rfl, linkStep_self s⟩
    | some x => exact .inl ⟨x.1, x.2, fun _ => s, rfl, by simp only [State.takeFrameReading, if_pos hb]⟩
  · by_cases hs : (s.ports.get p).settling = true
    · refine .inr ⟨?_, ?_⟩
      · simp only [State.completedFrame, requestFrame, hs]
        split <;> simp
      · simp only [State.takeCharacter, State.takeCharacterReading, if_neg hb, if_pos hs]
        split
        · obtain ⟨_, _, _, _, hr, -⟩ | ⟨-, g, e, hg⟩ := State.assemble_cases (s.ownersRead p) p c
            (({ s with choices := s.choices + 1 } : State).onPort p PortState.settled)
          · simp [PortState.settled, PortState.receive] at hr
          · rw [e]
            refine ⟨p, fun x => g x.settled, s.choices + 1, fun x => hg x.settled, ?_⟩
            simp [State.onPort]
        · exact ⟨p, id, s.choices + 1, fun _ => ⟨rfl, rfl⟩, by simp [State.onPort]⟩
    · have hchar : s.takeCharacter p c = s.assemble (s.ownersRead p) p c := by
        simp only [State.takeCharacter, State.takeCharacterReading, if_neg hb, if_neg hs]
      rw [hchar]
      obtain ⟨tag, kind, taken, high, hr, hc, e⟩ | ⟨hno, g, e, hg⟩ :=
        State.assemble_cases (s.ownersRead p) p c s
      · exact .inl ⟨p, ⟨tag, kind, taken⟩, _, by simp [State.completedFrame, requestFrame, hr, hc, hs], e⟩
      · refine .inr ⟨?_, e ▸ linkStep_onPort p hg⟩
        simp only [State.completedFrame, requestFrame]
        split
        · rename_i hr
          simp [hno _ _ _ _ hr]
        · rfl

/-! ## A command -/

/-- The effect of a command that is an event of the part or of its lines; none for the link's own. -/
def partEvent : Instr → Option (State → State)
  | .freshnessTimerExpiry p => some fun s => s.freshnessExpiry p
  | .frameStart => some State.frameTimerExpiry
  | .compositionComplete => some State.completeComposition
  | .terminalCount => some State.terminalCount
  | .flashTimerExpiry => some State.expireFlash
  | .windowClose => some State.closeWindow
  | .tellPhaseExpiry => some State.expireTellPhase
  | .encoderEdge line edge => some fun s => s.encoderEdge line edge
  | .indexEvent => some State.encoderIndex
  | .lowReqEdge edge => some fun s => s.lowRequest edge
  | .hardReset => some State.hardReset
  | .resetnRise => some State.resetnRise
  | .endOfBoot => some State.endOfBoot
  | .refclkEdge => some State.countReference
  | _ => none

/-- A command completes a frame, or changes a link alone, or is an event of the part. -/
theorem exec_cases {c : Instr} {s t : State} (h : exec c s = .next t) :
    (∃ p f v, s.completedFrame c = some (p, f) ∧ t = s.takeFrameReading v p f) ∨
      ((s.visChange c = none ∧ partEvent c = none) ∧ LinkStep s t) ∨
      ∃ e, s.completedFrame c = none ∧ partEvent c = some e ∧ t = e s := by
  cases hi : requestFrame c with
  | some x =>
    obtain ⟨p, f⟩ := x
    cases (exec_of_requestFrame s hi).symm.trans h
    exact .inl ⟨p, f, _, by simp [State.completedFrame, hi], rfl⟩
  | none =>
    cases c <;> simp only [requestFrame, reduceCtorEq] at hi <;> injection h with h <;> subst h
    case lengthFault p len =>
      refine .inr (.inl ⟨⟨rfl, rfl⟩, ?_⟩)
      unfold State.takeLengthFault
      split
      · split
        · exact linkStep_onPort p fun _ => ⟨rfl, rfl⟩
        · exact linkStep_self s
      · exact linkStep_self s
    case crcFault p c =>
      refine .inr (.inl ⟨⟨rfl, rfl⟩, ?_⟩)
      unfold State.takeCrcFault
      split
      · split
        · exact linkStep_onPort p fun _ => ⟨rfl, rfl⟩
        · exact linkStep_self s
      · exact linkStep_self s
    case gapTimerExpiry p =>
      refine .inr (.inl ⟨⟨rfl, rfl⟩, ?_⟩)
      unfold State.gapExpiry
      split
      · exact linkStep_onPort p fun _ => ⟨rfl, rfl⟩
      · exact linkStep_self s
    case replySent p =>
      refine .inr (.inl ⟨⟨rfl, rfl⟩, linkStep_onPort p fun x => ?_⟩)
      unfold PortState.replySent
      split <;> exact ⟨rfl, rfl⟩
    case characterReceived p c =>
      obtain ⟨q, f, v, hf, e⟩ | ⟨hnone, hstep⟩ := s.takeCharacter_cases p c
      · exact .inl ⟨q, f, v, hf, e⟩
      · exact .inr (.inl ⟨⟨by simp only [State.visChange, hnone], rfl⟩, hstep⟩)
    all_goals exact .inr (.inr ⟨_, rfl, rfl, rfl⟩)

end Sys2Proof.Machine
end

section
/-! PROOF. The freshness of the VIS port and the Supervisor's record of it, across every command (R153, R154, R176): every step keeps the level true. -/

namespace Sys2Proof.Machine

/-! ## What decides the next VIS change -/

/-- A shade list reaches its owner on the VIS port alone (R158). -/
theorem State.kindReached_shadeList {s : State} {p : Port} {f : Frame}
    (h : s.kindReached p f = some .shadeList) : p = .vis := by
  unfold State.kindReached at h
  split at h
  · cases h
  · obtain ⟨-, hk⟩ := Option.filter_eq_some_iff.1 h
    exact beq_iff_eq.1 (Bool.and_eq_true _ _ ▸ hk).1

/-- A frame that is completed on another port changes nothing of the VIS port's freshness. -/
theorem State.visChange_of_other {s : State} {c : Instr} {p : Port} {f : Frame}
    (h : s.completedFrame c = some (p, f)) (hp : p ≠ .vis) : s.visChange c = none := by
  simp only [State.visChange, h]
  exact if_neg fun hv => hp (State.kindReached_shadeList hv.2)

/-- A character completes a frame on its own port. -/
theorem State.port_of_completedFrame {s : State} {p q : Port} {c : Byte} {f : Frame}
    (h : s.completedFrame (.characterReceived p c) = some (q, f)) : q = p := by
  simp only [State.completedFrame, requestFrame] at h
  split at h
  · split at h
    · cases h
      rfl
    · cases h
  · cases h

/-- The command that changes the VIS port next is decided by the queue, the device state and the VIS port's link. -/
theorem State.nextVisChange_congr {s t : State} (hp : t.pending = s.pending) (hd : t.device = s.device)
    (hl : t.ports.vis.link = s.ports.vis.link) : t.nextVisChange = s.nextVisChange := by
  have receiver : (t.ports.get .vis).receiver = (s.ports.get .vis).receiver :=
    (congrArg PortState.receiver hl :)
  have settling : (t.ports.get .vis).settling = (s.ports.get .vis).settling :=
    (congrArg PortState.settling hl :)
  have places : (t.ports.get .vis).places = (s.ports.get .vis).places :=
    (congrArg PortState.places hl :)
  have fresh : t.ports.vis.fresh = s.ports.vis.fresh := fresh_of_link hl
  have reached (f : Frame) : t.kindReached .vis f = s.kindReached .vis f := by
    unfold State.kindReached
    rw [hd, places]
  have change (c : Instr) : t.visChange c = s.visChange c := by
    cases hi : requestFrame c with
    | some x =>
      obtain ⟨p, f⟩ := x
      have completed (u : State) : u.completedFrame c = some (p, f) := by simp [State.completedFrame, hi]
      by_cases h : p = .vis
      · subst h
        simp only [State.visChange, completed, reached, fresh]
      · rw [State.visChange_of_other (completed t) h, State.visChange_of_other (completed s) h]
    | none =>
      cases c <;> simp only [requestFrame, reduceCtorEq] at hi
      case characterReceived p char =>
        by_cases h : p = .vis
        · subst h
          have completed : t.completedFrame (.characterReceived .vis char) =
              s.completedFrame (.characterReceived .vis char) := by
            simp only [State.completedFrame, requestFrame]
            rw [receiver, settling]
          cases hu : s.completedFrame (.characterReceived .vis char) with
          | none => simp only [State.visChange, completed, hu]
          | some x =>
            obtain ⟨q, f⟩ := x
            cases State.port_of_completedFrame hu
            simp only [State.visChange, completed, hu, reached, fresh]
        · have none_of (u : State) : u.visChange (.characterReceived p char) = none := by
            cases hu : u.completedFrame (.characterReceived p char) with
            | none => simp only [State.visChange, hu]
            | some x =>
              obtain ⟨q, f⟩ := x
              exact State.visChange_of_other hu (State.port_of_completedFrame hu ▸ h)
          rw [none_of t, none_of s]
      case freshnessTimerExpiry p =>
        cases p
        · simp only [State.visChange, State.completedFrame, requestFrame, fresh]
        · rfl
        · rfl
      all_goals rfl
  simp only [State.nextVisChange, hp, funext change]

theorem State.compositionNext_congr {s t : State} (hp : t.pending = s.pending)
    (he : t.engine = s.engine) : t.compositionNext = s.compositionNext := by
  simp only [State.compositionNext, hp, he]

/-! ## The record of the VIS freshness (R176) -/

/-- A VIS change is recorded, or left to the frame start that comes next. -/
theorem State.reportVisChange_cases (b : Bool) (s : State) :
    (s.reportVisChange b).supervisor.recVisFresh = b ∨
      ((s.reportVisChange b).supervisor.recVisFresh = s.supervisor.recVisFresh ∧
        (s.reportVisChange b).compositionNext = true) := by
  by_cases h : s.compositionNext = true ∧ Config.visReportWaits s.choices = true
  · simp only [State.reportVisChange, if_pos h]
    exact .inr ⟨trivial, h.1⟩
  · simp only [State.reportVisChange, if_neg h]
    exact .inl (by simp)

@[simp] theorem State.takeVisReport_recVisFresh (due : Option Bool) (place i : Nat) (s : State) :
    (State.takeVisReport due place i s).supervisor.recVisFresh =
      if place = i then due.getD s.supervisor.recVisFresh else s.supervisor.recVisFresh := by
  cases due with
  | none => simp [State.takeVisReport]
  | some b =>
    simp only [State.takeVisReport]
    split <;> simp

@[simp] theorem State.queryPlausibility_recVisFresh (s : State) :
    s.queryPlausibility.supervisor.recVisFresh = s.supervisor.recVisFresh := by
  simp only [State.queryPlausibility]
  split
  · split
    · simp [State.moveDisagree]
    · split <;> simp [State.moveDisagree]
  · rfl

@[simp] theorem State.holdSource_recVisFresh (x : Source) (s : State) :
    (s.holdSource x).supervisor.recVisFresh = s.supervisor.recVisFresh := by
  unfold State.holdSource
  split <;> simp

/-- A composition's reports bring a due VIS change to the record, unless its place is left to the next command. -/
theorem State.beginComposition_recVisFresh (s : State) :
    s.beginComposition.supervisor.recVisFresh =
      if s.serveSnapshot.visReportPlace < 3 then s.visReportDue.getD s.supervisor.recVisFresh
      else s.supervisor.recVisFresh := by
  have hplace : s.serveSnapshot.visReportPlace < 4 := by
    unfold State.visReportPlace
    split <;> omega
  rw [← s.serveSnapshot_visReportDue]
  simp only [State.beginComposition, State.askOwners, State.takeVisReport_recVisFresh,
    State.holdSource_recVisFresh, State.queryPlausibility_recVisFresh, State.serveSnapshot_keeps]
  generalize s.serveSnapshot.visReportDue = due
  generalize s.serveSnapshot.visReportPlace = place at hplace
  cases due with
  | none => simp
  | some b => interval_cases place <;> simp

/-- What a frame start makes of the record: one that lags behind the port is brought to it, and one that does not is kept or brought to the change of the next command. -/
def VisTaken (s t : State) : Prop :=
  (s.supervisor.recVisFresh ≠ s.ports.vis.fresh → t.supervisor.recVisFresh = t.ports.vis.fresh) ∧
    (s.supervisor.recVisFresh = s.ports.vis.fresh →
      t.supervisor.recVisFresh = s.supervisor.recVisFresh ∨
        t.nextVisChange = some t.supervisor.recVisFresh)

theorem State.beginComposition_visTaken (s : State) : VisTaken s s.beginComposition := by
  have hfresh : s.beginComposition.ports.vis.fresh = s.ports.vis.fresh :=
    fresh_of_links (t := s.beginComposition) (s := s) (by simp) .vis
  have hnext : s.beginComposition.nextVisChange = s.nextVisChange :=
    State.nextVisChange_congr (by simp) (by simp)
      (link_of_links (t := s.beginComposition) (s := s) (by simp) .vis)
  have hlow : s.serveSnapshot.supervisor.recVisFresh = s.serveSnapshot.ports.vis.fresh ↔
      s.supervisor.recVisFresh = s.ports.vis.fresh := by
    have hsame : s.serveSnapshot.ports.vis.fresh = s.ports.vis.fresh :=
      fresh_of_links (t := s.serveSnapshot) (s := s) (by simp) .vis
    simp [hsame]
  refine ⟨fun hne => ?_, fun he => ?_⟩
  · have hplace : s.serveSnapshot.visReportPlace < 3 := by
      rw [State.visReportPlace, if_neg (mt hlow.1 hne)]
      exact Nat.mod_lt _ (by decide)
    rw [State.beginComposition_recVisFresh, if_pos hplace, State.visReportDue, if_neg hne, hfresh]
    rfl
  · rw [hnext, State.beginComposition_recVisFresh, State.visReportDue, if_pos he]
    split
    · cases hn : s.nextVisChange with
      | none => exact .inl rfl
      | some b => exact .inr rfl
    · exact .inl rfl

/-- A frame start that finds nothing in flight takes the VIS change, and one that is skipped does not touch the record. -/
theorem State.frameStart_vis (s : State) :
    (s.engine.flight = none → VisTaken s s.frameStart) ∧
      (s.engine.flight ≠ none → s.frameStart.supervisor.recVisFresh = s.supervisor.recVisFresh) := by
  obtain ⟨hf, e⟩ | ⟨hf, e⟩ := s.frameStart_cases <;> rw [e]
  · exact ⟨fun _ => State.beginComposition_visTaken s.timed, fun h => absurd hf h⟩
  · refine ⟨fun h => ?_, fun _ => ?_⟩
    · simp [h] at hf
    · simp only [State.skipFrame]
      split <;> simp [State.timed]

/-! ## The VIS port and its record across an owner's answer -/

/-- A refresh of the VIS port brings the record with it, or leaves that to the frame start that comes next; of another port it does not touch it. -/
theorem State.refresh_vis_record (s : State) :
    (s.ports.vis.fresh = true → (s.refresh .vis).supervisor.recVisFresh = s.supervisor.recVisFresh) ∧
      (s.ports.vis.fresh = false →
        (s.refresh .vis).supervisor.recVisFresh = true ∨
          ((s.refresh .vis).supervisor.recVisFresh = s.supervisor.recVisFresh ∧
            (s.refresh .vis).compositionNext = true)) := by
  refine ⟨fun h => ?_, fun h => ?_⟩
  · simp [State.refresh, PerPort.get, h]
  · have hno : ¬(s.ports.get .vis).fresh = true := by simp [PerPort.get, h]
    simp only [State.refresh, if_neg hno]
    exact State.reportVisChange_cases true _

theorem State.refresh_other_supervisor {p : Port} (s : State) (h : p ≠ .vis) :
    (s.refresh p).supervisor = s.supervisor := by
  simp only [State.refresh]
  split
  · rfl
  · cases p
    · exact absurd rfl h
    · rfl
    · rfl

/-- START takes a first frame start from the records as they stand. -/
theorem State.startRun_vis (s : State) :
    s.startRun.ports.vis.fresh = s.ports.vis.fresh ∧
      (s.startRun.supervisor.recVisFresh = s.supervisor.recVisFresh ∨ VisTaken s s.startRun) := by
  obtain ⟨hidle, hskip⟩ := ({ s with device := .run }.reportDevice .run false).frameStart_vis
  have hfresh : ({ s with device := Device.run }.reportDevice .run false).ports.vis.fresh =
      s.ports.vis.fresh :=
    fresh_of_links (s := s) (by simp) .vis
  have hrec : ({ s with device := Device.run }.reportDevice .run false).supervisor.recVisFresh =
      s.supervisor.recVisFresh := by simp
  refine ⟨fresh_of_links (t := s.startRun) (s := s) (by simp) .vis, ?_⟩
  by_cases hf : s.engine.flight = none
  · have htaken := hidle (by simpa using hf)
    rw [VisTaken, hfresh, hrec] at htaken
    exact .inr htaken
  · exact .inl ((hskip (by simpa using hf)).trans hrec)

/-- The answer to STATUS_CLEAR changes the port's flags and counters alone. -/
theorem State.serveStatusClear_cases (p : Port) (payload : List Byte) (s : State) :
    ∃ g : PortState → PortState, (∀ x, (g x).fresh = x.fresh ∧ (g x).freshTimer = x.freshTimer) ∧
      (s.serveStatusClear p payload).1 = s.onPort p g := by
  have same : s = s.onPort p id := by simp [State.onPort]
  unfold State.serveStatusClear
  split
  · split
    · exact ⟨PortState.clearSticky, fun _ => ⟨rfl, rfl⟩, rfl⟩
    · exact ⟨PortState.clearStatus, fun _ => ⟨rfl, rfl⟩, rfl⟩
    · exact ⟨id, fun _ => ⟨rfl, rfl⟩, same⟩
  · exact ⟨id, fun _ => ⟨rfl, rfl⟩, same⟩

/-- What a request leaves of the VIS port's freshness and of its record: a shade list refreshes the port and may bring the record with it, START takes a first frame start, and any other request leaves both. -/
theorem State.serve_vis (v : StatusOwner → State) {k : RequestKind} {p : Port} (payload : List Byte)
    (s : State) (hp : k.permitted p = true) :
    (k = .shadeList ∧ (s.serve v k p payload).1.ports.vis.fresh = true ∧
        (s.ports.vis.fresh = false →
          (s.serve v k p payload).1.supervisor.recVisFresh = true ∨
            ((s.serve v k p payload).1.supervisor.recVisFresh = s.supervisor.recVisFresh ∧
              (s.serve v k p payload).1.compositionNext = true)) ∧
        (s.ports.vis.fresh = true →
          (s.serve v k p payload).1.supervisor.recVisFresh = s.supervisor.recVisFresh)) ∨
      (k ≠ .shadeList ∧ (s.serve v k p payload).1.ports.vis.fresh = s.ports.vis.fresh ∧
        ((s.serve v k p payload).1.supervisor.recVisFresh = s.supervisor.recVisFresh ∨
          (p = .cab ∧ VisTaken s (s.serve v k p payload).1))) := by
  have same (t : State) (hk : k ≠ .shadeList) (e : (s.serve v k p payload).1 = t)
      (hf : t.ports.vis.fresh = s.ports.vis.fresh)
      (hs : t.supervisor.recVisFresh = s.supervisor.recVisFresh) :
      k ≠ .shadeList ∧ (s.serve v k p payload).1.ports.vis.fresh = s.ports.vis.fresh ∧
        ((s.serve v k p payload).1.supervisor.recVisFresh = s.supervisor.recVisFresh ∨
          (p = .cab ∧ VisTaken s (s.serve v k p payload).1)) := by
    rw [e]
    exact ⟨hk, hf, .inl hs⟩
  have unlinked (t : State) (hk : k ≠ .shadeList) (e : (s.serve v k p payload).1 = t)
      (hl : t.ports.map PortState.link = s.ports.map PortState.link)
      (hs : t.supervisor = s.supervisor) :=
    same t hk e (fresh_of_links hl .vis) (hs ▸ rfl)
  cases k with
  | shadeList =>
    cases beq_iff_eq.1 hp
    have hl : ((s.refresh .vis).serveShadeList payload).1.ports.map PortState.link =
        (s.ports.map PortState.link).set .vis (s.ports.vis.refreshed (s.params.timeout .vis)).link := by
      simp [PerPort.get]
    have hs : ((s.refresh .vis).serveShadeList payload).1.supervisor = (s.refresh .vis).supervisor := by
      simp
    have hn : ((s.refresh .vis).serveShadeList payload).1.compositionNext =
        (s.refresh .vis).compositionNext := State.compositionNext_congr (by simp) (by simp)
    obtain ⟨hfresh, hstale⟩ := s.refresh_vis_record
    refine .inl ⟨rfl, (congrArg (fun x => x.vis.fresh) hl :), fun h => ?_, fun h => ?_⟩
    · simp only [State.serve]
      rw [hs, hn]
      exact hstale h
    · simp only [State.serve]
      rw [hs]
      exact hfresh h
  | motion =>
    cases beq_iff_eq.1 hp
    have hl : ((s.refresh .chs).serveMotion payload).1.ports.map PortState.link =
        (s.ports.map PortState.link).set .chs (s.ports.chs.refreshed (s.params.timeout .chs)).link := by
      simp [PerPort.get]
    have hs := s.refresh_other_supervisor (p := .chs) nofun
    exact .inr (same ((s.refresh .chs).serveMotion payload).1 nofun rfl
      (congrArg (fun x => x.vis.fresh) hl :) (by simp [hs]))
  | mode =>
    cases beq_iff_eq.1 hp
    have hl : ((s.refresh .cab).serveMode payload).1.ports.map PortState.link =
        (s.ports.map PortState.link).set .cab (s.ports.cab.refreshed (s.params.timeout .cab)).link := by
      simp [PerPort.get]
    have hs := s.refresh_other_supervisor (p := .cab) nofun
    exact .inr (same ((s.refresh .cab).serveMode payload).1 nofun rfl
      (congrArg (fun x => x.vis.fresh) hl :) (by simp [hs]))
  | runControl =>
    cases beq_iff_eq.1 hp
    obtain e | ⟨-, -, -, e⟩ | ⟨-, -, e⟩ | ⟨-, e⟩ := s.serveRunControl_cases payload
    · exact .inr (same s nofun e rfl rfl)
    · obtain ⟨hf, hr⟩ := s.startRun_vis
      refine .inr ⟨nofun, ?_, ?_⟩
      · simp only [State.serve, e, hf]
      · simp only [State.serve, e]
        exact hr.imp_right fun h => ⟨trivial, h⟩
    · exact .inr (same s.stopRun nofun e (fresh_of_links (t := s.stopRun) (s := s) (by simp) .vis) (by simp))
    · exact .inr (same s.restartPart nofun e
        (fresh_of_links (t := s.restartPart) (s := s) (by simp) .vis) (by simp))
  | statusClear =>
    obtain ⟨g, hg, e⟩ := s.serveStatusClear_cases p payload
    have hf : (s.onPort p g).ports.vis.fresh = s.ports.vis.fresh := (linkStep_onPort p hg).keeps_fresh .vis
    exact .inr (same (s.onPort p g) nofun e hf rfl)
  | noticeControl => exact .inr (same (s.serveNoticeControl p payload).1 nofun rfl (by cases p <;> rfl) rfl)
  | configWrite => exact .inr (unlinked (s.serveConfigWrite payload).1 nofun rfl (by simp) (by simp))
  | lampControl => exact .inr (unlinked (s.serveLampControl payload).1 nofun rfl (by simp) (by simp))
  | recipeWrite => exact .inr (unlinked (s.serveRecipeWrite payload).1 nofun rfl (by simp) (by simp))
  | profileOpen => exact .inr (unlinked (s.serveProfileOpen payload).1 nofun rfl (by simp) (by simp))
  | profileData => exact .inr (unlinked (s.serveProfileData payload).1 nofun rfl (by simp) (by simp))
  | profileClose => exact .inr (unlinked s.closeSession nofun s.serveProfileClose_fst (by simp) (by simp))
  | statusRead => exact .inr (same { s with choices := s.choices + 1 } nofun rfl rfl rfl)
  | shadeRead => exact .inr (same s nofun (s.serveShadeRead_fst payload) rfl rfl)
  | frameRead => exact .inr (same s nofun (s.serveFrameRead_fst payload) rfl rfl)
  | profileRead => exact .inr (same s nofun (s.serveProfileRead_fst payload) rfl rfl)
  | recipeRead => exact .inr (same s nofun rfl rfl rfl)
  | configRead => exact .inr (same s nofun rfl rfl rfl)
  | noticeRead => exact .inr (same s nofun rfl rfl rfl)

/-! ## The VIS port and its record across a command -/

/-- What a command that is no change of the VIS port leaves of its freshness and record; `idle`: it is no frame start of an idle engine. -/
def VisKept (s t : State) (idle : Prop) : Prop :=
  t.ports.vis.fresh = s.ports.vis.fresh ∧
    ((t.supervisor.recVisFresh = s.supervisor.recVisFresh ∧ idle) ∨ VisTaken s t)

/-- What a command that changes the VIS port's freshness to `b` leaves. -/
def VisMoved (s t : State) (b : Bool) : Prop :=
  t.ports.vis.fresh = b ∧ s.ports.vis.fresh ≠ b ∧
    (t.supervisor.recVisFresh = b ∨
      (t.supervisor.recVisFresh = s.supervisor.recVisFresh ∧ t.compositionNext = true))

theorem State.afterServe_fresh (v : StatusOwner → State) (k : RequestKind) (p : Port) (f : Frame)
    (s : State) :
    (s.afterServe v k p f).ports.vis.fresh =
      ((s.taking p f).serve v k p f.payload).1.ports.vis.fresh :=
  (linkStep_onPort p (g := PortState.placeReply f _) fun _ => ⟨rfl, rfl⟩).keeps_fresh .vis

theorem State.taking_fresh (p : Port) (f : Frame) (s : State) :
    (s.taking p f).ports.vis.fresh = s.ports.vis.fresh :=
  (linkStep_onPort p (g := fun x => { x.frameIn with slot := some f }) fun _ =>
    ⟨rfl, rfl⟩).keeps_fresh .vis

/-- A frame that completes moves the VIS port as `visChange` has it. -/
theorem State.takeFrameReading_vis (v : StatusOwner → State) {s : State} {c : Instr} {p : Port}
    {f : Frame} (h : s.completedFrame c = some (p, f)) :
    (∃ b, s.visChange c = some b ∧ VisMoved s (s.takeFrameReading v p f) b) ∨
      (s.visChange c = none ∧ VisKept s (s.takeFrameReading v p f) True) := by
  have change : s.visChange c =
      if s.ports.vis.fresh = false ∧ s.kindReached p f = some .shadeList then some true else none := by
    simp only [State.visChange, h]
  obtain ⟨hk, hstep⟩ | ⟨k, hk, hs, hcode, hp, hl, e⟩ := s.takeFrameReading_cases v p f
  · refine .inr ⟨by simp [change, hk], hstep.keeps_fresh .vis, .inl ⟨?_, trivial⟩⟩
    obtain ⟨-, -, -, -, -, -, -, -, hsup, -, -⟩ := hstep.keeps
    rw [hsup]
  · rw [e, change, hk]
    have hfresh := s.afterServe_fresh v k p f
    have htaking := s.taking_fresh p f
    obtain ⟨rfl, hf, hstale, hkept⟩ | ⟨hne, hf, hr⟩ := State.serve_vis v f.payload (s.taking p f) hp
    · cases hsf : s.ports.vis.fresh with
      | false =>
        refine .inl ⟨true, by simp, hfresh.trans hf, by simp [hsf], ?_⟩
        exact hstale (htaking.trans hsf)
      | true =>
        refine .inr ⟨by simp, ?_, .inl ⟨hkept (htaking.trans hsf), trivial⟩⟩
        rw [hfresh, hf, hsf]
    · refine .inr ⟨by simp [hne], hfresh.trans (hf.trans htaking), ?_⟩
      obtain hr | ⟨rfl, hlag, hsame⟩ := hr
      · exact .inl ⟨hr, trivial⟩
      · refine .inr ⟨fun h => (hlag h).trans hfresh.symm, fun h => ?_⟩
        obtain hkept | hn := hsame h
        · exact .inl hkept
        · have hreply : (s.afterServe v k .cab f).nextVisChange =
              ((s.taking .cab f).serve v k .cab f.payload).1.nextVisChange :=
            State.nextVisChange_congr rfl rfl rfl
          exact .inr (hreply.trans hn)

@[simp] theorem State.closeWindow_recVisFresh (s : State) :
    s.closeWindow.supervisor.recVisFresh = s.supervisor.recVisFresh := by
  simp only [State.closeWindow]
  split
  · rfl
  · split <;> simp

@[simp] theorem State.expireTellPhase_recVisFresh (s : State) :
    s.expireTellPhase.supervisor.recVisFresh = s.supervisor.recVisFresh := by
  simp only [State.expireTellPhase]
  split <;> rfl

@[simp] theorem State.countReference_recVisFresh (s : State) :
    s.countReference.supervisor.recVisFresh = s.supervisor.recVisFresh := by
  unfold State.countReference
  split <;> rfl

@[simp] theorem State.endOfBoot_recVisFresh (s : State) :
    s.endOfBoot.supervisor.recVisFresh = s.supervisor.recVisFresh := by
  unfold State.endOfBoot
  split <;> simp

/-- A frame timer that expires in an idle engine has the VIS change taken. -/
theorem State.frameTimerExpiry_vis (s : State) :
    VisKept s s.frameTimerExpiry
      ¬(Instr.frameStart = .frameStart ∧ s.engine.timer.isSome = true ∧ s.engine.flight = none) := by
  refine ⟨fresh_of_links (by simp) .vis, ?_⟩
  obtain ⟨ht, e⟩ | ⟨-, e⟩ := s.frameTimerExpiry_cases <;> rw [e]
  · exact .inl ⟨rfl, by simp [ht]⟩
  · obtain ⟨hidle, hskip⟩ := s.frameStart_vis
    by_cases hf : s.engine.flight = none
    · exact .inr (hidle hf)
    · exact .inl ⟨hskip hf, fun h => hf h.2.2⟩

/-- The expiry of the VIS port's timer makes a fresh port STALE and moves the record with it or leaves that to the frame start that comes next. -/
theorem State.freshnessExpiry_vis (p : Port) (s : State) :
    (∃ b, s.visChange (.freshnessTimerExpiry p) = some b ∧ VisMoved s (s.freshnessExpiry p) b) ∨
      (s.visChange (.freshnessTimerExpiry p) = none ∧
        VisKept s (s.freshnessExpiry p)
          ¬(Instr.freshnessTimerExpiry p = .frameStart ∧ s.engine.timer.isSome = true ∧
            s.engine.flight = none)) := by
  have hl := s.freshnessExpiry_links p
  by_cases hfresh : (s.ports.get p).fresh = true
  · rw [if_pos hfresh] at hl
    cases p with
    | vis =>
      have hf : s.ports.vis.fresh = true := hfresh
      refine .inl ⟨false, by simp [State.visChange, State.completedFrame, requestFrame, hf],
        (congrArg (fun x => x.vis.fresh) hl :), by simp [hf], ?_⟩
      simp only [State.freshnessExpiry, if_pos hfresh]
      exact State.reportVisChange_cases false _
    | chs =>
      refine .inr ⟨rfl, (congrArg (fun x => x.vis.fresh) hl :), .inl ⟨?_, fun h => nomatch h.1⟩⟩
      simp only [State.freshnessExpiry, if_pos hfresh]
      rfl
    | cab =>
      refine .inr ⟨rfl, (congrArg (fun x => x.vis.fresh) hl :), .inl ⟨?_, fun h => nomatch h.1⟩⟩
      simp [State.freshnessExpiry, if_pos hfresh, State.tellDependents]
  · have hsame : s.freshnessExpiry p = s := if_neg hfresh
    rw [hsame]
    refine .inr ⟨?_, rfl, .inl ⟨rfl, fun h => nomatch h.1⟩⟩
    cases p with
    | vis =>
      have hf : ¬s.ports.vis.fresh = true := hfresh
      simp [State.visChange, State.completedFrame, requestFrame, hf]
    | chs => rfl
    | cab => rfl

/-- Every command but a hard reset moves the VIS port as `visChange` has it, and its record with it or at the frame start that follows. -/
theorem exec_vis {c : Instr} {s t : State} (h : exec c s = .next t) (hc : c ≠ .hardReset) :
    (∃ b, s.visChange c = some b ∧ VisMoved s t b) ∨
      (s.visChange c = none ∧
        VisKept s t ¬(c = .frameStart ∧ s.engine.timer.isSome = true ∧ s.engine.flight = none)) := by
  obtain ⟨p, f, v, hf, rfl⟩ | ⟨⟨hv, he⟩, hstep⟩ | ⟨e, hf, he, rfl⟩ := exec_cases h
  · refine (State.takeFrameReading_vis v hf).imp_right fun ⟨hv, hkept, hr⟩ => ⟨hv, hkept, ?_⟩
    refine hr.imp_left fun ⟨hr, _⟩ => ⟨hr, ?_⟩
    rintro ⟨rfl, -, -⟩
    cases hf
  · refine .inr ⟨hv, hstep.keeps_fresh .vis, .inl ⟨?_, ?_⟩⟩
    · obtain ⟨-, -, -, -, -, -, -, -, hsup, -, -⟩ := hstep.keeps
      rw [hsup]
    · rintro ⟨rfl, -, -⟩
      cases he
  · have same {u : State} {c : Instr} (hne : c ≠ .frameStart) (hv : s.visChange c = none)
        (hl : u.ports.map PortState.link = s.ports.map PortState.link)
        (hr : u.supervisor.recVisFresh = s.supervisor.recVisFresh) :
        (∃ b, s.visChange c = some b ∧ VisMoved s u b) ∨
          (s.visChange c = none ∧
            VisKept s u ¬(c = .frameStart ∧ s.engine.timer.isSome = true ∧ s.engine.flight = none)) :=
      .inr ⟨hv, fresh_of_links hl .vis, .inl ⟨hr, fun h => hne h.1⟩⟩
    cases c <;> simp only [partEvent, reduceCtorEq, Option.some.injEq] at he <;> subst he
    case hardReset => exact absurd rfl hc
    case freshnessTimerExpiry p => exact s.freshnessExpiry_vis p
    case frameStart => exact .inr ⟨rfl, s.frameTimerExpiry_vis⟩
    case endOfBoot =>
      have hl := s.endOfBoot_links
      refine .inr ⟨rfl, ?_, .inl ⟨by simp, fun h => nomatch h.1⟩⟩
      split at hl
      · exact (congrArg (fun x => x.vis.fresh) hl :)
      · exact fresh_of_links hl .vis
    all_goals exact same nofun rfl (by simp) (by simp)

/-! ## Every step -/

theorem LevelInv.levelTrue {s : State} (h : LevelInv s) : s.LevelTrue where
  device := h.device
  source := h.source
  agreement := h.agreement
  level := by
    have hsafe := h.safe
    have hbasic := h.basic
    have hnormal := h.normal
    rw [← Supervisor.computed_safe] at hsafe
    rw [← Supervisor.computed_basic] at hbasic
    rw [← Supervisor.computed_normal] at hnormal
    cases hl : s.supervisor.level with
    | safe => exact (hsafe.1 hl).symm
    | basic => exact (hbasic.1 hl).symm
    | normal => exact (hnormal.1 hl).symm
    | reduced =>
      cases hc : s.supervisor.computed with
      | safe => exact absurd (hsafe.2 hc) (by simp [hl])
      | basic => exact absurd (hbasic.2 hc) (by simp [hl])
      | normal => exact absurd (hnormal.2 hc) (by simp [hl])
      | reduced => rfl
  requested := h.requested
  tell := ⟨h.shown, h.firstOn, h.timer⟩

/-- The level is true and the record of the VIS freshness agrees with the port, or lags behind it or is ahead of it as R176 lets it. -/
theorem State.LevelTrue.levelInv {s : State} (h : s.LevelTrue)
    (hv : s.supervisor.recVisFresh = s.ports.vis.fresh ∨ s.compositionNext = true ∨
      s.nextVisChange = some s.supervisor.recVisFresh) : LevelInv s where
  device := h.device
  vis := hv
  source := h.source
  agreement := h.agreement
  safe := by rw [h.level, Supervisor.computed_safe]
  basic := by rw [h.level, Supervisor.computed_basic]
  normal := by rw [h.level, Supervisor.computed_normal]
  requested := h.requested
  shown := h.tell.shown
  firstOn := h.tell.firstOn
  timer := h.tell.timer

/-- Settles O53: reports compute the level from the records they set, and the record of the VIS freshness differs from the port's only between neighbouring commands. -/
theorem stepsKeepTheLevelTrue : Obligations.StepsKeepTheLevelTrue := by
  intro s t hs ht
  have hlevel : t.LevelTrue := keptByEffects_levelTrue.step (fun _ _ h => h) hs.levelTrue ht
  refine hlevel.levelInv ?_
  obtain ⟨-, rfl⟩ | ⟨c, rest, hp, he⟩ := step_cases ht
  · exact hs.vis
  by_cases hc : c = .hardReset
  · subst hc
    cases he
    exact .inl rfl
  obtain ⟨b, -, hf, -, hr | ⟨-, hn⟩⟩ | ⟨hnone, hf, ⟨hr, hidle⟩ | ⟨hlag, hsame⟩⟩ := exec_vis he hc
  · exact .inl (hr.trans hf.symm)
  · exact .inr (.inl hn)
  · obtain hv | hv | hv := hs.vis
    · exact .inl (hr.trans (hv.trans hf.symm))
    · simp only [State.compositionNext, hp, List.head?_cons, Option.some.injEq, Bool.and_eq_true,
        decide_eq_true_eq, Option.isNone_iff_eq_none] at hv
      exact absurd ⟨hv.1.1, hv.1.2, hv.2⟩ hidle
    · simp only [State.nextVisChange, hp, List.head?_cons, Option.bind_some] at hv
      exact absurd (hv.symm.trans hnone) nofun
  · by_cases hv : s.supervisor.recVisFresh = s.ports.vis.fresh
    · exact (hsame hv).imp (fun h => h.trans (hv.trans hf.symm)) .inr
    · exact .inl (hlag hv)

end Sys2Proof.Machine
end

section
/-! PROOF. Marks, changes of a link and recomputations of the level in either order; and a request served by its owner, from its frame to its reply (R134, R140, R150 to R152). -/

namespace Sys2Proof.Machine

/-! ## Marks and changes of a link -/

/-- A change of a port that neither reads nor writes its marks. -/
def MarkBlind (g : PortState → PortState) : Prop := ∀ f ns x, g (x.marked f ns) = (g x).marked f ns

theorem State.marked_onPort {g : PortState → PortState} (hg : MarkBlind g) (p : Port) (f : Sticky)
    (ns : List Notice) (s : State) : (s.marked f ns).onPort p g = (s.onPort p g).marked f ns := by
  simp only [State.marked, State.onPort, PerPort.get_map, PerPort.map_set, hg f ns]

/-- Marks may be made in either order. -/
theorem PortState.marked_comm (f g : Sticky) (ms ns : List Notice) (x : PortState) :
    (x.marked f ms).marked g ns = (x.marked g ns).marked f ms := by
  rw [PortState.marked_marked, PortState.marked_marked]
  have hu : f.union g = g.union f := by
    simp only [Sticky.union, Bool.or_comm]
  simp only [PortState.marked, hu, List.any_append, Bool.or_comm]

theorem State.marked_comm (f g : Sticky) (ms ns : List Notice) (s : State) :
    (s.marked f ms).marked g ns = (s.marked g ns).marked f ms := by
  simp only [State.marked, PerPort.map_map]
  exact congrArg (fun h => { s with ports := s.ports.map h }) (funext (PortState.marked_comm f g ms ns))

/-! ## A recomputation (R119, R121) -/

/-- The node that a recomputation sets. -/
def Supervisor.levelNotices (x : Supervisor) : List Notice := if x.computed = x.level then [] else [.level]

/-- The Supervisor after a recomputation. -/
def Supervisor.recomputed (next : Bool) (x : Supervisor) : Supervisor :=
  if x.computed = x.level then x
  else { x with level := x.computed, tell := x.tell.request next (patternOfLevel x.computed) }

/-- A recomputation is a change of the Supervisor by its own records, and a mark. -/
theorem State.recompute_eq (s : State) :
    s.recompute =
      { s with supervisor := s.supervisor.recomputed s.tellExpiryNext }.marked Sticky.clear
        s.supervisor.levelNotices := by
  obtain ⟨h, e⟩ | ⟨h, e⟩ := s.recompute_cases
  · rw [e, Supervisor.levelNotices, Supervisor.recomputed, if_pos h, if_pos h, State.marked_nothing]
  · rw [e, Supervisor.levelNotices, Supervisor.recomputed, if_neg h, if_neg h, State.notify_eq_marked]

theorem State.recompute_marked (f : Sticky) (ns : List Notice) (s : State) :
    (s.marked f ns).recompute = s.recompute.marked f ns := by
  rw [State.recompute_eq, State.recompute_eq, State.marked_comm]
  rfl

theorem State.recompute_onPort {g : PortState → PortState} (hg : MarkBlind g) (p : Port) (s : State) :
    (s.onPort p g).recompute = s.recompute.onPort p g := by
  rw [State.recompute_eq, State.recompute_eq, State.marked_onPort hg]
  rfl

/-! ## A request served by its owner -/

theorem markBlind_taking (f : Frame) : MarkBlind fun x => { x.frameIn with slot := some f } :=
  fun _ _ _ => rfl

theorem markBlind_refreshed (n : Nat) : MarkBlind (PortState.refreshed n) := fun _ _ _ => rfl

theorem markBlind_staled : MarkBlind PortState.staled := fun _ _ _ => rfl

/-- A frame of kind `k` that passes the dispatch checks, and that its owner answers with a change that leaves the request slot as it is: the change is made, and the port has answered. -/
theorem State.takeFrame_of_served {p : Port} {f : Frame} {k : RequestKind} {r : List Byte} {s t : State}
    (hk : f.kind = k.code) (hs : s.canTake p) (hp : k.permitted p = true)
    (hl : k.lenAllowed f.payload.length = true)
    (hr : (s.taking p f).serve (s.ownersRead p) k p f.payload = (t.taking p f, r)) :
    s.takeFrame p f = t.answered p f.tag k r := by
  rw [State.takeFrame_of_serve hk hs hp hl hr, State.answered, ← hk]
  simp [State.onPort, State.taking, PortState.answered, PortState.placeReply, PortState.frameIn,
    PortState.receive]

/-- The same for a request row. -/
theorem exec_of_serve {i : Instr} {p : Port} {f : Frame} {k : RequestKind} {r : List Byte} {s t : State}
    (hi : requestFrame i = some (p, f)) (hk : f.kind = k.code) (hs : s.canTake p)
    (hp : k.permitted p = true) (hl : k.lenAllowed f.payload.length = true)
    (hr : (s.taking p f).serve (s.ownersRead p) k p f.payload = (t.taking p f, r)) :
    exec i s = .next (t.answered p f.tag k r) := by
  rw [exec_of_requestFrame s hi, State.takeFrame_of_served hk hs hp hl hr]

theorem State.taking_marked (p : Port) (f : Frame) (g : Sticky) (ns : List Notice) (s : State) :
    (s.taking p f).marked g ns = (s.marked g ns).taking p f :=
  (State.marked_onPort (markBlind_taking f) p g ns s).symm

theorem State.taking_recompute (p : Port) (f : Frame) (s : State) :
    (s.taking p f).recompute = s.recompute.taking p f :=
  State.recompute_onPort (markBlind_taking f) p s

end Sys2Proof.Machine
end

section
/-! PROOF. The events that cannot come, the resets (R166) and RUN_CONTROL (R64, R167 to R170). -/

namespace Sys2Proof.Machine

/-! ## Events that cannot come -/

theorem OneShot.expire_of_not_showing {o : OneShot} (h : ∀ d, o ≠ .showing d) : o.expire = o := by
  cases o with
  | idle => rfl
  | showing d => exact absurd rfl (h d)
  | expired => rfl

theorem State.expireTellPhase_of_no_blink {s : State} (hb : s.supervisor.tell.shown.blinks = false)
    (hr : s.supervisor.tell.replaced = false) : s.expireTellPhase = s := by
  simp [State.expireTellPhase, TellDriver.expire, hb, hr]

theorem State.takeLengthFault_of_not_due {s : State} {p : Port} {c : Byte}
    (h : s.device = .boot ∨ c.toNat ≤ 60 ∨
      ∀ tag kind, (s.ports.get p).receiver ≠ .headerLen tag kind) : s.takeLengthFault p c = s := by
  unfold State.takeLengthFault
  split
  · rename_i tag kind hr
    refine if_neg fun hdue => ?_
    obtain hb | hc | hno := h
    · exact hdue.1 hb
    · exact absurd hdue.2 (Nat.not_lt.2 hc)
    · exact hno tag kind hr
  · rfl

theorem State.takeCrcFault_of_not_due {s : State} {p : Port} {c : Byte}
    (h : s.device = .boot ∨
      ∀ tag kind taken high, (s.ports.get p).receiver ≠ .checkLow tag kind taken high) :
    s.takeCrcFault p c = s := by
  unfold State.takeCrcFault
  split
  · rename_i tag kind taken high hr
    refine if_neg fun hdue => ?_
    obtain hb | hno := h
    · exact hdue.1 hb
    · exact hno tag kind taken high hr
  · rfl

theorem State.onPort_of_fixed {s : State} {p : Port} {g : PortState → PortState}
    (h : g (s.ports.get p) = s.ports.get p) : s.onPort p g = s := by
  simp [State.onPort, h]

/-- Settles O3: each event's meaning begins with the test that it can come. -/
theorem eventsThatCannotComeChangeNothing : Obligations.EventsThatCannotComeChangeNothing := by
  intro s
  have same {t : State} (h : t = s) : (Host.Outcome.next t : Host.Outcome State Fault Refusal) = .next s :=
    congrArg _ h
  refine ⟨fun h => same ?timer, fun h => same ?flight, fun h => ⟨same (if_pos h), same (if_pos h), same (if_pos h), same (if_pos h)⟩, fun h => same ?flash,
    fun hb hr => same (State.expireTellPhase_of_no_blink hb hr), fun h => same (if_pos h),
    fun h => same ?boot, fun p h => same ?gap, fun p h => same ?fresh, fun p h => same ?reply,
    fun p c => ⟨fun h => same ?char, fun h => same (State.takeLengthFault_of_not_due h),
      fun h => same (State.takeCrcFault_of_not_due h)⟩⟩
  case timer => simp [State.frameTimerExpiry, h]
  case flight => simp [State.completeComposition, h]
  case flash => simp only [State.expireFlash, OneShot.expire_of_not_showing h]
  case boot => exact if_neg fun hdue => h.elim (fun hb => hb hdue.1) fun hr => by simp [hr] at hdue
  case gap => exact if_neg (by simp [h])
  case fresh => exact if_neg (by simp [h])
  case reply => exact State.onPort_of_fixed (by simp only [PortState.replySent, h])
  case char => simp only [State.takeCharacter, State.takeCharacterReading, if_pos h]

/-! ## Resets -/

/-- Settles O5: the state after reset is the one that a hard reset leaves of it. -/
theorem invariantsHoldAtReset : Obligations.InvariantsHoldAtReset := by
  have hlink : LinkInv State.reset := fun p => by
    cases p <;> exact ⟨rfl, Nat.zero_le _, rfl, by decide, rfl⟩
  have hsame : State.reset.hardReset = State.reset := rfl
  have hlevel : LevelInv State.reset :=
    State.LevelTrue.levelInv (hsame ▸ State.levelTrue_hardReset State.reset) (.inl rfl)
  have hquiet : QuietInv State.reset := (quietInv_iff _).2 (hsame ▸ State.reset.quiet_hardReset)
  have hbright : BrightInv State.reset := (brightInv_iff _).2 (hsame ▸ State.reset.bright_hardReset)
  have hdecoder : DecoderInv State.reset := by
    simp [DecoderInv, State.reset, Steering.reset, Config.encoderCentre]
  have hshade : ShadeInv State.reset := ⟨by decide, tableWf_nil⟩
  have hswivel : SwivelInv State.reset := Engine.swivelOk_of_idle (e := Engine.reset) rfl rfl
  have hsession : SessionInv State.reset := nofun
  exact ⟨hshade, hdecoder, hswivel, hsession, hlink, hlevel, hquiet, hbright, _, rfl, hsame⟩

/-- Settles O6: at level SAFE in BOOT the end of BOOT leaves the level and sets no node (R121, R166). -/
theorem powerUpReachesStandby : Obligations.PowerUpReachesStandby := by
  intro s
  refine ⟨fun h => ?_, fun hinv hboot hr => ?_⟩
  · have hlow : ¬s.resetn = true := by simp [h]
    exact congrArg Host.Outcome.next (if_neg hlow)
  · have hsafe : s.supervisor.level = .safe := hinv.safe.2 (.inl (by rw [hinv.device, hboot]; decide))
    refine ⟨hsafe, congrArg Host.Outcome.next ?_⟩
    have hdue : s.device = .boot ∧ s.resetn = true := ⟨hboot, hr⟩
    rw [State.endOfBoot, if_pos hdue]
    refine if_pos ?_
    rw [hsafe, Supervisor.computed_safe]
    exact .inl nofun

/-- Every place of an empty store is 0. -/
theorem slotRows_reset_get (n : Nat) (r : Row) (c : Fin 80) :
    ((PatternMemory.reset.slotRows n).row r)[c] = 0 := by
  have hrows : PatternMemory.reset.slotRows n = TwoRows.zero 80 := by
    simp only [PatternMemory.slotRows, PatternMemory.reset, Vector.getElem?_replicate]
    split <;> rfl
  rw [hrows]
  cases r <;> simp [TwoRows.row, TwoRows.zero]

/-- A port after a hard reset, field by field (R139, R156). -/
theorem portState_reset_nodes (n : Fin 8) :
    PortState.reset.nodes[n] = if n = 7 then ⟨true, 1⟩ else ⟨false, 0⟩ := by
  fin_cases n <;> rfl

/-- Settles O4: the reset values of the blocks are those of the tables, and with RESETN low no segment line is high. -/
theorem hardResetGivesTheResetValues : Obligations.HardResetGivesTheResetValues := by
  intro s
  have hports (p : Port) : s.hardReset.ports.get p = PortState.reset := by cases p <;> rfl
  have hlayer (i : Fin 8) : PatternMemory.reset.layers[i] = Layer.reset := by
    simp [PatternMemory.reset]
  refine ⟨s.hardReset, rfl, rfl, rfl, fun q => by cases q <;> rfl, rfl, rfl, slotRows_reset_get, hlayer, rfl,
    rfl, rfl, fun k => by cases k <;> rfl, rfl, rfl, rfl, rfl, rfl, rfl, rfl, rfl, rfl, rfl, rfl, rfl, rfl, rfl,
    rfl, rfl, fun p => ?_, fun _ _ _ _ => rfl, rfl, rfl⟩
  have hasserted : PortState.reset.lineAsserted = true := by decide
  rw [State.noticePin, hports p, hasserted]
  exact ⟨rfl, rfl, rfl, fun _ => rfl, rfl, rfl, rfl, rfl, rfl, rfl, rfl, rfl, rfl, rfl, portState_reset_nodes,
    rfl, rfl⟩

/-! ## RUN_CONTROL -/

/-- A recomputation on records that give SAFE puts the level there (R118, R121). -/
theorem State.recompute_of_safe {s : State} (h : s.supervisor.computed = .safe) :
    s.recompute =
      { s with supervisor := s.supervisor.atSafe s.tellExpiryNext }.marked Sticky.clear
        (noticesToSafe s.supervisor.level) := by
  obtain ⟨he, e⟩ | ⟨hne, e⟩ := s.recompute_cases <;> rw [h] at *
  · have hsame : s.supervisor.atSafe s.tellExpiryNext = s.supervisor := by
      rw [Supervisor.atSafe, if_pos he.symm, he]
    rw [e, ← he, noticesToSafe, if_pos rfl, State.marked_nothing, hsame]
  · rw [e, State.notify_eq_marked, noticesToSafe, if_neg hne.symm, Supervisor.atSafe, if_neg hne.symm]
    rfl

/-- STOP taken: the records give SAFE, as the device state is no longer RUN (R169). -/
theorem State.stopRun_eq_marked (s : State) :
    s.stopRun =
      { s.halted with
        supervisor :=
          { s.supervisor with recDevice := .standby, safeLatch := false }.atSafe s.tellExpiryNext }.marked
        Sticky.clear (noticesToSafe s.supervisor.level) :=
  State.recompute_of_safe
    (s := { s.halted with supervisor := { s.supervisor with recDevice := .standby, safeLatch := false } })
    ((Supervisor.computed_safe _).2 (.inl nofun))

theorem State.taking_stopRun (p : Port) (f : Frame) (s : State) :
    (s.taking p f).stopRun = s.stopRun.taking p f :=
  State.taking_recompute p f
    { s.halted with supervisor := { s.supervisor with recDevice := .standby, safeLatch := false } }

/-- Settles O8: in STANDBY the records give SAFE, and nothing else of STOP looks at the ports. -/
theorem stopClearsTheBeam : Obligations.StopClearsTheBeam := by
  refine fun tag s hs => ⟨fun hd => ?_, fun hd => ?_⟩
  · have hr : (s.taking .cab ⟨tag, RequestKind.runControl.code, [2]⟩).serveRunControl [2] =
        (s.stopRun.taking .cab ⟨tag, RequestKind.runControl.code, [2]⟩, [0x00, 0x01]) := by
      rw [← State.taking_stopRun]
      exact if_pos hd
    refine (exec_of_serve (k := .runControl) (f := ⟨tag, _, [2]⟩) rfl rfl hs rfl rfl hr).trans ?_
    rw [State.stopRun_eq_marked]
    rfl
  · refine exec_of_serve (k := .runControl) (f := ⟨tag, _, [2]⟩) rfl rfl hs rfl rfl (if_neg ?_)
    intro hrun
    cases hd.symm.trans hrun

/-- RESTART taken: the records give SAFE, and the ports are cleared of their flags before they are marked (R170). -/
theorem State.restartPart_eq_marked (s : State) :
    s.restartPart =
      { s.halted with
        steering := s.steering.restarted
        patterns := { s.patterns with session := none }
        engine := s.engine.restarted
        supervisor :=
          { s.supervisor with
            recDevice := .standby
            safeLatch := false
            recSource := .none
            recDisagree := false }.atSafe s.tellExpiryNext
        ports := s.ports.map fun (p : PortState) => { p with sticky := s.restartFlags }
        restartFlags := Sticky.clear }.marked
        Sticky.clear (noticesToSafe s.supervisor.level ++ [Notice.restart]) := by
  rw [← Sticky.union_clear Sticky.clear, ← State.marked_marked, ← State.notify_eq_marked]
  refine congrArg (State.notify .restart) (State.recompute_of_safe ?_)
  exact (Supervisor.computed_safe _).2 (.inl nofun)

theorem State.taking_restartPart (p : Port) (f : Frame) (s : State) :
    (s.taking p f).restartPart = s.restartPart.taking p f := by
  rw [State.restartPart_eq_marked, State.restartPart_eq_marked]
  cases p <;> rfl

/-- Settles O9: in STANDBY the records give SAFE, and the frame in the request slot keeps its place while the sticky sets are cleared. -/
theorem restartClearsTheSteeringToo : Obligations.RestartClearsTheSteeringToo := by
  intro tag s hs
  have hr : (s.taking .cab ⟨tag, RequestKind.runControl.code, [3]⟩).serveRunControl [3] =
      (s.restartPart.taking .cab ⟨tag, RequestKind.runControl.code, [3]⟩, [0x00, 0x01]) := by
    rw [← State.taking_restartPart]
    rfl
  refine (exec_of_serve (k := .runControl) (f := ⟨tag, _, [3]⟩) rfl rfl hs rfl rfl hr).trans ?_
  rw [State.restartPart_eq_marked]
  rfl

/-! ## START: a frame start with a request in the CAB slot -/

section
variable {g : PortState → PortState}

theorem State.notify_onPort (hg : MarkBlind g) (p : Port) (n : Notice) (s : State) :
    (s.onPort p g).notify n = (s.notify n).onPort p g := by
  rw [State.notify_eq_marked, State.notify_eq_marked, State.marked_onPort hg]

/-- The snapshot changes the Shade Manager, and marks SHADE where TRAFFIC changes (R17, R21). -/
theorem State.serveSnapshot_eq (s : State) :
    s.serveSnapshot =
      { s with
        shades :=
          { s.shades with
            table := ageTable s.params.fadeStep s.shades.table
            traffic := trafficOf (ageTable s.params.fadeStep s.shades.table) } }.marked
        Sticky.clear
        (if trafficOf (ageTable s.params.fadeStep s.shades.table) = s.shades.traffic then []
         else [.shade]) := by
  simp only [State.serveSnapshot, State.notify_eq_marked]
  split
  · rw [State.marked_nothing]
  · rfl

theorem State.serveSnapshot_onPort (hg : MarkBlind g) (p : Port) (s : State) :
    (s.onPort p g).serveSnapshot = s.serveSnapshot.onPort p g := by
  rw [State.serveSnapshot_eq, State.serveSnapshot_eq, State.marked_onPort hg]
  rfl

theorem State.takeVisReport_onPort (hg : MarkBlind g) (p : Port) (due : Option Bool) (place i : Nat)
    (s : State) :
    State.takeVisReport due place i (s.onPort p g) = (State.takeVisReport due place i s).onPort p g := by
  unfold State.takeVisReport
  split
  · split
    · exact State.recompute_onPort hg p { s with supervisor := _ }
    · rfl
  · rfl

theorem State.moveDisagree_onPort (hg : MarkBlind g) (p : Port) (b : Bool) (s : State) :
    (s.onPort p g).moveDisagree b = (s.moveDisagree b).onPort p g := by
  have hmoved := State.notify_onPort hg p .steer
    { s with
      steering := { s.steering with disagree := b, disagreeRun := 0, agreeRun := 0 }
      supervisor := { s.supervisor with recDisagree := b } }
  have hreport := State.recompute_onPort hg p
    ({ s with
      steering := { s.steering with disagree := b, disagreeRun := 0, agreeRun := 0 }
      supervisor := { s.supervisor with recDisagree := b } }.notify .steer)
  exact (congrArg State.recompute hmoved).trans hreport

theorem State.queryPlausibility_onPort_cab (hg : MarkBlind g) (s : State) :
    (s.onPort .cab g).queryPlausibility = s.queryPlausibility.onPort .cab g := by
  have moved (b : Bool) := State.moveDisagree_onPort hg .cab b
    { s with steering := runsAfter s.sourcesDiffer s.steering }
  have hp : (s.onPort .cab g).plausible = s.plausible := rfl
  simp only [State.queryPlausibility, hp]
  by_cases h : s.plausible = true
  · rw [if_pos h, if_pos h]
    by_cases henter : (runsAfter s.sourcesDiffer s.steering).disagree = false ∧
        s.params.disagreeFrames ≤ (runsAfter s.sourcesDiffer s.steering).disagreeRun
    · rw [if_pos henter]
      exact (if_pos henter).trans (moved true)
    · rw [if_neg henter]
      refine (if_neg henter).trans ?_
      by_cases hleave : (runsAfter s.sourcesDiffer s.steering).disagree = true ∧
          s.params.disagreeFrames ≤ (runsAfter s.sourcesDiffer s.steering).agreeRun
      · rw [if_pos hleave]
        exact (if_pos hleave).trans (moved false)
      · rw [if_neg hleave]
        exact if_neg hleave
  · rw [if_neg h, if_neg h]

theorem State.holdSource_onPort (hg : MarkBlind g) (p : Port) (x : Source) (s : State) :
    (s.onPort p g).holdSource x = (s.holdSource x).onPort p g := by
  have hheld := State.recompute_onPort hg p
    { s with
      steering := { s.steering with source := x }
      supervisor := { s.supervisor with recSource := x } }
  unfold State.holdSource
  by_cases h : x = s.steering.source
  · rw [if_pos h]
    exact if_pos h
  · rw [if_neg h]
    exact (if_neg h).trans hheld

/-- The owners asked at a frame start do not look at the CAB port. -/
theorem State.askOwners_onPort_cab (hg : MarkBlind g) (s : State) :
    (s.onPort .cab g).askOwners =
      { snapshot := s.askOwners.snapshot.onPort .cab g
        start := s.askOwners.start.onPort .cab g
        agreement := s.askOwners.agreement.onPort .cab g
        between := s.askOwners.between.onPort .cab g
        source := s.askOwners.source.onPort .cab g
        after := s.askOwners.after.onPort .cab g } := by
  have hdue (u : State) : (u.onPort .cab g).visReportDue = u.visReportDue := by
    have hnext : (u.onPort .cab g).nextVisChange = u.nextVisChange :=
      State.nextVisChange_congr (s := u) rfl rfl rfl
    simp only [State.visReportDue, hnext]
    rfl
  have hplace (u : State) : (u.onPort .cab g).visReportPlace = u.visReportPlace := rfl
  have hselect (u : State) : (u.onPort .cab g).selectSource = u.selectSource := rfl
  simp only [State.askOwners, State.serveSnapshot_onPort hg, hdue, hplace, hselect,
    State.takeVisReport_onPort hg, State.queryPlausibility_onPort_cab hg, State.holdSource_onPort hg]

theorem State.beginComposition_onPort_cab (hg : MarkBlind g) (s : State) :
    (s.onPort .cab g).beginComposition = s.beginComposition.onPort .cab g := by
  have hquery : (s.askOwners.snapshot.onPort .cab g).steeringQuery.target =
        s.askOwners.snapshot.steeringQuery.target ∧
      (s.askOwners.snapshot.onPort .cab g).steeringQuery.clip =
        s.askOwners.snapshot.steeringQuery.clip := by
    simp only [State.steeringQuery, State.queryPlausibility_onPort_cab hg]
    exact ⟨rfl, rfl⟩
  simp only [State.beginComposition, State.askOwners_onPort_cab hg, State.latchInputs, hquery]
  rfl

theorem State.skipFrame_onPort (hg : MarkBlind g) (p : Port) (s : State) :
    (s.onPort p g).skipFrame = s.skipFrame.onPort p g := by
  have hcount := State.notify_onPort hg p .repeated
    { s with
      engine :=
        { s.engine with
          repeatCount := bump Config.counterMax s.engine.repeatCount
          consecRepeats := bump 255 s.engine.consecRepeats } }
  have hover := State.notify_onPort hg p .repeated
    { s with
      engine :=
        { s.engine with
          repeatCount := bump Config.counterMax s.engine.repeatCount
          consecRepeats := bump 255 s.engine.consecRepeats }
      supervisor := { s.supervisor with safeLatch := true } }
  simp only [State.skipFrame]
  by_cases h : s.params.overrunLimit ≤ bump 255 s.engine.consecRepeats
  · rw [if_pos h]
    refine (if_pos h).trans ((congrArg State.recompute hover).trans ?_)
    exact State.recompute_onPort hg p _
  · rw [if_neg h]
    exact (if_neg h).trans hcount

theorem State.frameStart_onPort_cab (hg : MarkBlind g) (s : State) :
    (s.onPort .cab g).frameStart = s.frameStart.onPort .cab g := by
  cases h : s.engine.flight with
  | none =>
    rw [State.frameStart_of_idle h, State.frameStart_of_idle (s := s.onPort .cab g) h]
    exact State.beginComposition_onPort_cab hg s.timed
  | some x =>
    rw [State.frameStart_of_flight h, State.frameStart_of_flight (s := s.onPort .cab g) h]
    exact State.skipFrame_onPort hg .cab s.timed

theorem State.startRun_onPort_cab (hg : MarkBlind g) (s : State) :
    (s.onPort .cab g).startRun = s.startRun.onPort .cab g := by
  have hreport := State.recompute_onPort hg .cab
    { s with device := .run, supervisor := { s.supervisor with recDevice := .run } }
  exact (congrArg State.frameStart hreport).trans (State.frameStart_onPort_cab hg _)

end

theorem State.taking_startRun (f : Frame) (s : State) :
    (s.taking .cab f).startRun = s.startRun.taking .cab f :=
  State.startRun_onPort_cab (markBlind_taking f) s

theorem enabledCount_pos_iff (m : PatternMemory) :
    0 < m.enabledCount ↔ ∃ l ∈ m.layers.toList, l.enabled = true :=
  List.countP_pos_iff

/-- In RUN with the safe latch clear and so above SAFE: what keeps the level off SAFE across reports that touch neither. -/
def Supervisor.AboveSafe (x : Supervisor) : Prop :=
  x.recDevice = .run ∧ x.safeLatch = false ∧ x.level ≠ .safe

theorem aboveSafe_recompute {s : State} (hd : s.supervisor.recDevice = .run)
    (hl : s.supervisor.safeLatch = false) : s.recompute.supervisor.AboveSafe := by
  refine ⟨by simpa using hd, by simpa using hl, ?_⟩
  rw [State.recompute_level, ne_eq, Supervisor.computed_safe]
  simp [hd, hl]

theorem aboveSafe_takeVisReport {s : State} (h : s.supervisor.AboveSafe) (due : Option Bool)
    (place i : Nat) : (State.takeVisReport due place i s).supervisor.AboveSafe := by
  unfold State.takeVisReport
  split
  · split
    · exact aboveSafe_recompute h.1 h.2.1
    · exact h
  · exact h

theorem aboveSafe_queryPlausibility {s : State} (h : s.supervisor.AboveSafe) :
    s.queryPlausibility.supervisor.AboveSafe := by
  simp only [State.queryPlausibility]
  split
  · split
    · exact aboveSafe_recompute h.1 h.2.1
    · split
      · exact aboveSafe_recompute h.1 h.2.1
      · exact h
  · exact h

theorem aboveSafe_holdSource {s : State} (h : s.supervisor.AboveSafe) (x : Source) :
    (s.holdSource x).supervisor.AboveSafe := by
  unfold State.holdSource
  split
  · exact h
  · exact aboveSafe_recompute h.1 h.2.1

theorem aboveSafe_beginComposition {s : State} (h : s.supervisor.AboveSafe) :
    s.beginComposition.supervisor.AboveSafe := by
  have hsnapshot : s.serveSnapshot.supervisor.AboveSafe := by simpa using h
  exact aboveSafe_takeVisReport (aboveSafe_holdSource (aboveSafe_takeVisReport
    (aboveSafe_queryPlausibility (aboveSafe_takeVisReport hsnapshot _ _ 0)) _ _ 1) _) _ _ 2

/-- A part that was quiet before START composes from S = 0 on an empty table. -/
theorem State.startRun_of_quiet {s : State} (hd : s.device = .standby) (h : QuietInv s) :
    s.startRun.engine.flight.isSome = true ∧ s.startRun.engine.swivel = 0 ∧ s.startRun.shades.table = [] ∧
      s.startRun.supervisor.level ≠ .safe := by
  have hq := h.2 (by rw [hd]; decide)
  have hidle : ({ s with device := .run }.reportDevice .run false).engine.flight = none := by
    simpa using hq.flight
  have htable : ageTable s.params.fadeStep s.shades.table = [] := by rw [hq.table]; rfl
  have habove : ({ s with device := .run }.reportDevice .run false).supervisor.AboveSafe :=
    aboveSafe_recompute rfl hq.latch
  rw [State.startRun, State.frameStart_of_idle hidle]
  refine ⟨by simp, by simpa using hq.swivel, ?_, ?_⟩
  · simpa [State.serveSnapshot_eq] using htable
  · obtain ⟨-, -, hlevel⟩ := aboveSafe_beginComposition (s := State.timed _) habove
    exact hlevel

/-- Settles O7: START's frame start does not look at the CAB port, whose slot holds the request. -/
theorem startEntersRun : Obligations.StartEntersRun := by
  refine fun tag s hs => ⟨fun hd hen => ?_, fun hno => ?_, fun code h1 h2 h3 => ?_⟩
  · have hr : (s.taking .cab ⟨tag, RequestKind.runControl.code, [1]⟩).serveRunControl [1] =
        (s.startRun.taking .cab ⟨tag, RequestKind.runControl.code, [1]⟩, [0x00, 0x02]) := by
      rw [← State.taking_startRun]
      exact if_pos ⟨hd, (enabledCount_pos_iff _).2 hen⟩
    refine ⟨_, exec_of_serve (k := .runControl) (f := ⟨tag, _, [1]⟩) rfl rfl hs rfl rfl hr, rfl, ?_, ?_,
      fun hq => State.startRun_of_quiet hd hq⟩
    · simp [State.answered]
    · simp [State.answered]
  · refine exec_of_serve (k := .runControl) (f := ⟨tag, _, [1]⟩) rfl rfl hs rfl rfl (if_neg ?_)
    rintro ⟨hd, hen⟩
    obtain ⟨l, hl, he⟩ := (enabledCount_pos_iff _).1 hen
    obtain hrun | hoff := hno
    · cases hd.symm.trans hrun
    · exact absurd he (by simp [hoff l hl])
  · refine State.takeFrame_of_served (k := .runControl) rfl hs rfl rfl ?_
    have hc (n : Byte) (hn : code ≠ n) : code.toNat ≠ n.toNat := mt BitVec.eq_of_toNat_eq hn
    simp only [State.serve, State.serveRunControl]
    split
    · exact absurd ‹code.toNat = 1› (hc 1 h1)
    · exact absurd ‹code.toNat = 2› (hc 2 h2)
    · exact absurd ‹code.toNat = 3› (hc 3 h3)
    · rfl

end Sys2Proof.Machine
end

section
/-! PROOF. CONFIG_WRITE (R30, R33, R172): the parameters after the pairs, their codes and the reply. -/

namespace Sys2Proof.Machine

/-! ## The parameters after the pairs -/

/-- The value of a parameter after one pair. -/
theorem writePair_get (running : Bool) (x : Params) (pair : Nat × Nat) (q : Param) :
    (writePair running x pair).1.get q =
      if paramOfId pair.1 = some q ∧ ¬(q = .framePeriod ∧ running = true) then clampParam q pair.2
      else x.get q := by
  unfold writePair
  cases hp : paramOfId pair.1 with
  | none => simp
  | some a =>
    by_cases hrun : a = .framePeriod ∧ running = true
    · have hno : ¬(some a = some q ∧ ¬(q = .framePeriod ∧ running = true)) := by
        rintro ⟨h, hn⟩
        exact hn (Option.some.inj h ▸ hrun)
      simp only [if_pos hrun, if_neg hno]
    · by_cases haq : a = q
      · subst haq
        simp [hrun]
      · have hno : ¬(some a = some q ∧ ¬(q = .framePeriod ∧ running = true)) := fun h =>
          haq (Option.some.inj h.1)
        simp only [if_neg hrun, if_neg hno, Params.get_set_of_ne _ _ (Ne.symm haq)]

theorem lastWritten_cons (pair : Nat × Nat) (rest : List (Nat × Nat)) (q : Param) :
    lastWritten (pair :: rest) q =
      (lastWritten rest q).or (if paramOfId pair.1 = some q then some pair.2 else none) := by
  simp only [lastWritten, List.reverse_cons, List.find?_append]
  cases List.find? (fun x => paramOfId x.1 == some q) rest.reverse with
  | none => by_cases h : paramOfId pair.1 = some q <;> simp [h]
  | some x => simp

/-- The pairs in order leave each parameter the value of the last that names it. -/
theorem writePairs_get (running : Bool) (x : Params) (pairs : List (Nat × Nat)) (q : Param) :
    (writePairs running x pairs).1.get q = valueAfter running x pairs q := by
  induction pairs generalizing x with
  | nil => rfl
  | cons pair rest ih =>
    rw [writePairs, ih]
    simp only [valueAfter, lastWritten_cons, writePair_get]
    cases lastWritten rest q with
    | some n => by_cases h : q = .framePeriod ∧ running = true <;> simp [h]
    | none =>
      by_cases hq : paramOfId pair.1 = some q
      · by_cases h : q = .framePeriod ∧ running = true <;> simp [hq, h, clampParam]
      · simp [hq]

theorem raiseTownOff_get_eq (x : Params) (q : Param) :
    (raiseTownOff x).get q =
      if q = .townOff ∧ x.get .townOff < x.get .townOn then x.get .townOn else x.get q := by
  unfold raiseTownOff
  by_cases h : x.townOff < x.townOn
  · by_cases hq : q = .townOff
    · subst hq
      have hyes : Param.townOff = .townOff ∧ x.get .townOff < x.get .townOn := ⟨rfl, h⟩
      rw [if_pos h, if_pos hyes]
      rfl
    · rw [if_pos h, if_neg (fun hn => hq hn.1)]
      exact x.get_set_of_ne x.townOn hq
  · have hno : ¬(q = .townOff ∧ x.get .townOff < x.get .townOn) := fun hn => h hn.2
    rw [if_neg h, if_neg hno]

/-! ## The codes -/

theorem writePair_code (running : Bool) (x : Params) (pair : Nat × Nat) :
    (writePair running x pair).2.code = pairCode running pair := by
  unfold writePair pairCode
  cases paramOfId pair.1 with
  | none => rfl
  | some q =>
    by_cases hrun : q = .framePeriod ∧ running = true
    · simp only [if_pos hrun]
      rfl
    · have hclamp : clampParam q pair.2 = pair.2 ↔
          ¬(pair.2 < Config.paramMin q ∨ Config.paramMax q < pair.2) := by
        have hmm : Config.paramMin q ≤ Config.paramMax q := by cases q <;> decide
        unfold clampParam
        omega
      by_cases hr : pair.2 < Config.paramMin q ∨ Config.paramMax q < pair.2
      · simp only [if_neg hrun, if_pos hr, if_neg (mt hclamp.1 (not_not_intro hr))]
        rfl
      · simp only [if_neg hrun, if_neg hr, if_pos (hclamp.2 hr)]
        rfl

theorem writePairs_codes (running : Bool) (x : Params) (pairs : List (Nat × Nat)) :
    (writePairs running x pairs).2.map Result.code = pairs.map (pairCode running) := by
  induction pairs generalizing x with
  | nil => rfl
  | cons pair rest ih =>
    rw [writePairs, List.map_cons, List.map_cons, ih, writePair_code]

/-- A code names its result. -/
theorem Result.code_injective : Function.Injective Result.code := by
  intro a b
  cases a <;> cases b <;> first | exact fun _ => rfl | exact fun h => absurd h (by decide)

theorem Result.mem_iff_code_mem (r : Result) (rs : List Result) : r ∈ rs ↔ r.code ∈ rs.map Result.code :=
  (List.mem_map_of_injective Result.code_injective).symm

theorem configResult_code (rs : List Result) (raised : Bool) :
    (configResult rs raised).code =
      if 0x15 ∈ rs.map Result.code ∨ 0x11 ∈ rs.map Result.code then 0x02
      else if 0x01 ∈ rs.map Result.code ∨ raised = true then 0x01 else 0x00 := by
  have hrefused : rs.any (fun r => r == .refusedValue || r == .refusedState) = true ↔
      0x15 ∈ rs.map Result.code ∨ 0x11 ∈ rs.map Result.code := by
    have h15 := Result.mem_iff_code_mem .refusedValue rs
    have h11 := Result.mem_iff_code_mem .refusedState rs
    rw [← show Result.refusedValue.code = 0x15 from rfl, ← show Result.refusedState.code = 0x11 from rfl,
      ← h15, ← h11]
    simp [List.any_eq_true, exists_or, and_or_left]
  have hclamped : (rs.contains .okClamped || raised) = true ↔
      0x01 ∈ rs.map Result.code ∨ raised = true := by
    have h01 := Result.mem_iff_code_mem .okClamped rs
    rw [← show Result.okClamped.code = 0x01 from rfl, ← h01]
    simp
  unfold configResult
  simp only [hrefused, hclamped]
  split
  · rfl
  · split <;> rfl

/-! ## The test against encoder_limit (R33) -/

theorem paramOfId_encoderLimit (n : Nat) : paramOfId n = some .encoderLimit ↔ n = 0x11 := by
  constructor
  · intro h
    unfold paramOfId at h
    split at h <;> first | rfl | exact absurd (Option.some.inj h) nofun | cases h
  · rintro rfl
    rfl

/-- The decoder after a CONFIG_WRITE: tested where a pair names the limit. -/
theorem configWrite_steering (limit : Nat) (x : Steering) (pairs : List (Nat × Nat)) :
    (if pairs.any namesEncoderLimit = true then limitTest limit x else x) =
      { x with
        decoder :=
          if (∃ y ∈ pairs, y.1 = 0x11) ∧ x.decoder = .referenced ∧
              limit < ((x.count : Int) - 32768).natAbs then .faulted
          else x.decoder } := by
  have hnamed : pairs.any namesEncoderLimit = true ↔ ∃ y ∈ pairs, y.1 = 0x11 := by
    simp only [List.any_eq_true, namesEncoderLimit, beq_iff_eq, paramOfId_encoderLimit]
  by_cases hn : ∃ y ∈ pairs, y.1 = 0x11
  · rw [if_pos (hnamed.2 hn)]
    by_cases h : x.decoder = .referenced ∧ limit < ((x.count : Int) - 32768).natAbs
    · rw [if_pos ⟨hn, h⟩]
      exact if_pos h
    · rw [if_neg fun hh => h hh.2]
      exact if_neg h
  · rw [if_neg (mt hnamed.1 hn), if_neg fun hh => hn hh.1]

/-- The owner's answer to CONFIG_WRITE in terms of its pairs and codes. -/
theorem State.serveConfigWrite_eq (payload : List Byte) (s : State) {pairs : List (Nat × Nat)}
    {w : Params × List Result} {codes : List Byte} {raised : Bool} (hpairs : pairs = readPairs payload)
    (hw : w = writePairs (decide (s.device = .run)) s.params pairs)
    (hcodes : codes = pairs.map (pairCode (decide (s.device = .run))))
    (hraised : raised = decide (w.1.townOff < w.1.townOn)) :
    s.serveConfigWrite payload =
      ({ s with
          params := raiseTownOff w.1
          steering :=
            { s.steering with
              decoder :=
                if (∃ y ∈ pairs, y.1 = 0x11) ∧ s.steering.decoder = DecoderState.referenced ∧
                    (raiseTownOff w.1).encoderLimit < ((s.steering.count : Int) - 32768).natAbs then .faulted
                else s.steering.decoder } }.marked
          { Sticky.clear with inputClamp := codes.contains 0x01 || raised } [],
        (if 0x15 ∈ codes ∨ 0x11 ∈ codes then 0x02
          else if 0x01 ∈ codes ∨ raised = true then 0x01 else 0x00) :: codes) := by
  have hmap : w.2.map Result.code = codes := by rw [hw, hcodes, writePairs_codes]
  have hclamped : w.2.contains .okClamped = codes.contains 0x01 := by
    rw [← hmap]
    exact Bool.eq_iff_iff.2
      (List.contains_iff_mem.trans ((Result.mem_iff_code_mem .okClamped w.2).trans List.contains_iff_mem.symm))
  simp only [State.serveConfigWrite, ← hpairs, ← hw, ← hraised, configWrite_steering, hclamped,
    configResult_code, hmap, State.raise_eq_marked]
  rfl

/-- Settles O10: the owner's answer with the parameters, the codes and the decoder read off its pairs. -/
theorem configWriteSetsParameters : Obligations.ConfigWriteSetsParameters := by
  intro tag payload s hs hmod hmin hmax pairs running raised codes hpairs hrunning hraised hcodes
  subst hcodes hraised hrunning hpairs
  have hlen : RequestKind.configWrite.lenAllowed payload.length = true := by
    simp [RequestKind.lenAllowed, hmod, hmin, hmax]
  refine ⟨raiseTownOff (writePairs (decide (s.device = .run)) s.params (readPairs payload)).1, fun q => ?_,
    exec_of_serve (k := .configWrite) (f := ⟨tag, _, payload⟩) rfl rfl hs rfl hlen ?_⟩
  · simp only [raiseTownOff_get_eq, writePairs_get, decide_eq_true_eq]
  · have hraised : decide
        (valueAfter (decide (s.device = .run)) s.params (readPairs payload) .townOff <
          valueAfter (decide (s.device = .run)) s.params (readPairs payload) .townOn) =
        decide ((writePairs (decide (s.device = .run)) s.params (readPairs payload)).1.townOff <
          (writePairs (decide (s.device = .run)) s.params (readPairs payload)).1.townOn) := by
      rw [← writePairs_get, ← writePairs_get]
      rfl
    rw [hraised, ← State.taking_marked]
    exact State.serveConfigWrite_eq payload (s.taking .cab ⟨tag, _, payload⟩) rfl rfl rfl rfl

end Sys2Proof.Machine
end

section
/-! PROOF. The receiver and the transmitter of a link (R143 to R152): characters, faults, lost frames, the dispatch checks, and a frame as its characters. -/

namespace Sys2Proof.Machine

/-! ## Characters at the receiver (R146) -/

theorem exec_characterReceived {s : State} {p : Port} (c : Byte) (hb : s.device ≠ .boot)
    (hs : (s.ports.get p).settling = false) :
    exec (.characterReceived p c) s = .next (s.assemble (s.ownersRead p) p c) :=
  congrArg Host.Outcome.next (State.takeCharacterReading_settled _ p c s hb hs)

/-- A receiver put in a state outside HUNT has its gap timer running. -/
theorem onPort_receive (p : Port) {r : Receiver} (s : State) (h : r ≠ .hunt) :
    s.onPort p (PortState.receive r) = s.receiving p r := by
  have hd : decide (r ≠ .hunt) = true := decide_eq_true h
  simp only [State.receiving, State.onPort, PortState.receive, hd]

/-- The check of R145 over the characters as they came. -/
theorem crcPasses_iff (tag kind : Byte) (taken : List Byte) (high low : Byte) :
    crcPasses ⟨tag, kind, taken⟩ high low = true ↔
      crcOf (tag :: kind :: BitVec.ofNat 8 taken.length :: taken ++ [high, low]) = 0 := beq_iff_eq

theorem takeLengthFault_of_due {s : State} {p : Port} {tag kind c : Byte} (hb : s.device ≠ .boot)
    (hr : (s.ports.get p).receiver = .headerLen tag kind) (hc : 60 < c.toNat) :
    s.takeLengthFault p c = s.onPort p PortState.lengthFault := by
  simp only [State.takeLengthFault, hr]
  exact if_pos ⟨hb, hc⟩

theorem takeCrcFault_of_due {s : State} {p : Port} {tag kind high c : Byte} {taken : List Byte}
    (hb : s.device ≠ .boot) (hr : (s.ports.get p).receiver = .checkLow tag kind taken high)
    (hc : crcOf (tag :: kind :: BitVec.ofNat 8 taken.length :: taken ++ [high, c]) ≠ 0) :
    s.takeCrcFault p c = s.onPort p PortState.crcFault := by
  simp only [State.takeCrcFault, hr]
  exact if_pos ⟨hb, by simpa using mt (crcPasses_iff tag kind taken high c).1 hc⟩

/-- A character that the receiver takes once its line is found quiet, in HUNT (R146). -/
theorem assemble_settled (v : StatusOwner → State) (p : Port) (c : Byte) (s : State) :
    (s.onPort p PortState.settled).assemble v p c =
      s.onPort p fun x =>
        { x with
          receiver := if c = 0xC3 then .headerTag else .hunt
          gapTimer := decide (c = 0xC3)
          settling := false } := by
  have hr : ((s.onPort p PortState.settled).ports.get p).receiver = .hunt := by
    simp [PortState.settled, PortState.receive]
  by_cases hc : c = syncChar
  · have hc' : c = 0xC3 := hc
    simp only [State.assemble, hr, if_pos hc, if_pos hc', decide_eq_true hc']
    simp [State.onPort, PortState.settled, PortState.receive]
  · have hc' : ¬c = 0xC3 := hc
    simp only [State.assemble, hr, if_neg hc, if_neg hc', decide_eq_false hc']
    rfl

/-- Settles O14: each state of the receiver has its branch of the model's `assemble`. -/
theorem characterMovesTheReceiver : Obligations.CharacterMovesTheReceiver := by
  refine ⟨fun p c s hb hs => ?_, fun p c s hb hs => ?_⟩
  · simp only [exec, execCharacterReceived, State.takeCharacter, State.takeCharacterReading, if_neg hb,
      if_pos hs]
    by_cases hq : Config.lineWasQuiet s.choices = true
    · rw [if_pos hq, assemble_settled]
      exact .inr rfl
    · rw [if_neg hq]
      exact .inl rfl
  · rw [exec_characterReceived c hb hs]
    refine ⟨fun hr => ?_, fun hr => ?_, fun tag hr => ?_,
      fun tag kind hr => ⟨fun hc => ?_, fun hc => ?_, fun h1 hc => ?_⟩,
      fun tag kind taken left hr => ⟨fun hl => ?_, fun hl => ?_⟩, fun tag kind taken hr => ?_,
      fun tag kind taken high hr => ⟨fun hc => ?_, fun i hi hc => ?_⟩⟩
    case refine_1 =>
      simp only [State.assemble, hr, syncChar, onPort_receive p s (r := .headerTag) nofun]
    case refine_2 =>
      simp only [State.assemble, hr, onPort_receive p s (r := .headerKind c) nofun]
    case refine_3 =>
      simp only [State.assemble, hr, onPort_receive p s (r := .headerLen tag c) nofun]
    case refine_4 =>
      have hf : exec (.lengthFault p c) s = .next (s.takeLengthFault p c) := rfl
      rw [hf, takeLengthFault_of_due hb hr hc]
      have hm : maxPayload < c.toNat := hc
      simp only [State.assemble, hr, if_pos hm]
    case refine_5 =>
      have hm : ¬maxPayload < c.toNat := by simp [hc]
      simp only [State.assemble, hr, if_neg hm, if_pos hc,
        onPort_receive p s (r := .checkHigh tag kind []) nofun]
    case refine_6 =>
      have hm : ¬maxPayload < c.toNat := Nat.not_lt.2 hc
      have h0 : ¬c.toNat = 0 := Nat.ne_of_gt h1
      simp only [State.assemble, hr, if_neg hm, if_neg h0,
        onPort_receive p s (r := .payload tag kind [] c.toNat) nofun]
    case refine_7 =>
      simp only [State.assemble, hr, if_pos hl.le,
        onPort_receive p s (r := .checkHigh tag kind (taken ++ [c])) nofun]
    case refine_8 =>
      simp only [State.assemble, hr, if_neg (Nat.not_le.2 hl),
        onPort_receive p s (r := .payload tag kind (taken ++ [c]) (left - 1)) nofun]
    case refine_9 =>
      simp only [State.assemble, hr, onPort_receive p s (r := .checkLow tag kind taken c) nofun]
    case refine_10 =>
      have hf : exec (.crcFault p c) s = .next (s.takeCrcFault p c) := rfl
      rw [hf, takeCrcFault_of_due hb hr hc]
      simp only [State.assemble, hr]
      rw [if_neg (mt (crcPasses_iff tag kind taken high c).1 hc)]
    case refine_11 =>
      rw [exec_of_requestFrame s hi]
      simp only [State.assemble, hr]
      rw [if_pos ((crcPasses_iff tag kind taken high c).2 hc)]
      rfl

/-! ## Faults, replies sent and the levels of TXD (R143, R147, R148, R152) -/

theorem lengthFault_eq (p : Port) (s : State) :
    s.onPort p PortState.lengthFault =
      s.onPort p fun x =>
        { x with
          receiver := .hunt, gapTimer := false
          lengthErrors := min 65535 (x.lengthErrors + 1) } := rfl

theorem crcFault_eq (p : Port) (s : State) :
    s.onPort p PortState.crcFault =
      s.onPort p fun x =>
        { x with
          receiver := .hunt, gapTimer := false
          crcErrors := min 65535 (x.crcErrors + 1) } := rfl

theorem gapFault_eq (p : Port) (s : State) :
    s.onPort p PortState.gapFault =
      s.onPort p fun x =>
        { x with
          receiver := .hunt, gapTimer := false
          gapErrors := min 65535 (x.gapErrors + 1) } := rfl

/-- A list of pieces of one length: place `j` of piece `i` is place `n * i + j` of the whole. -/
theorem getElem?_flatMap_of_length {α β : Type} {n : Nat} {f : α → List β}
    (hf : ∀ a, (f a).length = n) :
    ∀ (l : List α) (i j : Nat) (hi : i < l.length), j < n →
      (l.flatMap f)[n * i + j]? = (f l[i])[j]?
  | a :: l, 0, j, _, hj => by
    rw [List.flatMap_cons, Nat.mul_zero, Nat.zero_add, List.getElem?_append_left (by rw [hf]; exact hj)]
    rfl
  | a :: l, i + 1, j, hi, hj => by
    have ih := getElem?_flatMap_of_length hf l i j (Nat.lt_of_succ_lt_succ hi) hj
    have hk : n * (i + 1) + j = (f a).length + (n * i + j) := by rw [hf, Nat.mul_succ]; omega
    rw [List.flatMap_cons, hk, List.getElem?_append_right (Nat.le_add_right _ _),
      Nat.add_sub_cancel_left, ih]
    rfl

/-- The line is at rest, and so high, once no character is left to send (R143). -/
theorem txdPin_of_length_le {s : State} {p : Port} {n : Nat}
    (h : (s.ports.get p).sendingLevels.length ≤ n) : s.txdPin p n = true := by
  simp [State.txdPin, List.getElem?_eq_none h]

theorem sendingLevels_of_reply {x : PortState} {r : Reply} {rest : List Reply} (h : x.replies = r :: rest) :
    x.sendingLevels =
      (wireFrame { tag := r.tag, kind := r.kind, payload := r.payload }).flatMap characterLevels := by
  simp [PortState.sendingLevels, PortState.sending, h]

theorem length_flatMap_characterLevels (cs : List Byte) :
    (cs.flatMap characterLevels).length = 10 * cs.length := by
  simp [List.length_flatMap, Nat.mul_comm]

/-- Settles O15: each fault has its equation, and the levels of TXD are the characters' levels in a row. -/
theorem linkEventsCountAndSend : Obligations.LinkEventsCountAndSend := by
  intro p c s
  refine ⟨fun tag kind hb hr hc => ?_, fun tag kind taken high hb hr hc => ?_, fun hg => ?_,
    fun r rest hr => ?_, fun n h => ?_, fun r rest chars hb hr hchars => ⟨fun n hn => ?_, fun i j hj => ?_⟩⟩
  case refine_1 =>
    rw [← lengthFault_eq, ← takeLengthFault_of_due hb hr hc]
    rfl
  case refine_2 =>
    rw [← crcFault_eq, ← takeCrcFault_of_due hb hr hc]
    rfl
  case refine_3 =>
    rw [← gapFault_eq]
    exact congrArg Host.Outcome.next (if_pos hg)
  case refine_4 =>
    have hx : PortState.replySent (s.ports.get p) =
        { s.ports.get p with
          replies := rest, tally := { (s.ports.get p).tally with sent := (s.ports.get p).tally.sent + 1 } } := by
      simp only [PortState.replySent, hr]
    exact congrArg (fun x => Host.Outcome.next { s with ports := s.ports.set p x }) hx
  case refine_5 =>
    rcases h with h | h
    · simp [State.txdPin, h]
    · exact txdPin_of_length_le (by simp [PortState.sendingLevels, PortState.sending, h])
  case refine_6 =>
    refine txdPin_of_length_le ?_
    rw [sendingLevels_of_reply hr, ← hchars, length_flatMap_characterLevels]
    exact hn
  case refine_7 =>
    have hl := getElem?_flatMap_of_length characterLevels_length chars i.val j i.isLt hj
    simp [State.txdPin, hb, sendingLevels_of_reply hr, ← hchars, hl]

/-! ## Frames that no owner takes (R150, R166) -/

theorem places_eq (x : PortState) :
    x.places = x.replies.length + (if x.slot = none then 0 else 1) := by
  cases hs : x.slot <;> simp [PortState.places, hs]

/-- A frame that finds both places of the reply queue held is dropped and counted (R150). -/
theorem takeFrameReading_of_full {s : State} {p : Port} (v : StatusOwner → State) (f : Frame)
    (hb : s.device ≠ .boot) (hq : 2 ≤ (s.ports.get p).places) :
    s.takeFrameReading v p f = (s.onPort p PortState.frameIn).onPort p PortState.drop := by
  have hq' : Config.queueCapacity ≤ ((s.onPort p PortState.frameIn).ports.get p).places := by
    simp only [State.onPort_ports, PerPort.get_set_self]
    exact hq
  simp only [State.takeFrameReading, if_neg hb, if_pos hq']

/-- Settles O16: the two ends of `takeFrameReading` at which no owner is asked. -/
theorem lostFramesHaveNoEffect : Obligations.LostFramesHaveNoEffect := by
  intro i p f s hi
  rw [exec_of_requestFrame s hi]
  refine ⟨fun hb => ?_, fun hb hq => ?_⟩
  · rw [State.takeFrame_of_boot p f hb]
  · rw [← places_eq] at hq
    refine congrArg Host.Outcome.next ((takeFrameReading_of_full _ f hb hq).trans ?_)
    simp [State.onPort, PortState.frameIn, PortState.drop, PortState.receive, Config.counterMax, bump]

/-! ## The dispatch checks (R151, R158) -/

theorem dispatch_of_unknown {f : Frame} (v : StatusOwner → State) (p : Port) (s : State)
    (h : RequestKind.ofCode f.kind = none) : s.dispatch v p f = (s, [0x17]) := by
  simp only [State.dispatch, h]
  rfl

theorem dispatch_of_port_refused {f : Frame} {k : RequestKind} {p : Port} (v : StatusOwner → State)
    (s : State) (hk : RequestKind.ofCode f.kind = some k) (hp : k.permitted p = false) :
    s.dispatch v p f = (s, [0x10]) := by
  simp only [State.dispatch, hk, if_pos hp]
  rfl

theorem dispatch_of_length_refused {f : Frame} {k : RequestKind} {p : Port} (v : StatusOwner → State)
    (s : State) (hk : RequestKind.ofCode f.kind = some k) (hp : k.permitted p = true)
    (hl : k.lenAllowed f.payload.length = false) : s.dispatch v p f = (s, [0x16]) := by
  simp only [State.dispatch, hk, hp, if_pos hl]
  rfl

theorem exec_of_dispatch_same {i : Instr} {p : Port} {f : Frame} {s : State} {r : List Byte}
    (hi : requestFrame i = some (p, f)) (hc : s.canTake p)
    (h : ∀ (v : StatusOwner → State) (t : State), t.dispatch v p f = (t, r)) :
    exec i s = .next (s.onPort p (PortState.answered ⟨f.tag, f.kind + 0x80, r⟩)) := by
  rw [exec_of_requestFrame s hi, State.takeFrame_of_dispatch_same hc (h _ _)]

/-- A KIND names the kind of that code (R158). -/
theorem ofCode_eq_some_iff (kind : Byte) (k : RequestKind) :
    RequestKind.ofCode kind = some k ↔ kind = k.code := by
  refine ⟨fun h => ?_, fun h => h ▸ RequestKind.ofCode_code k⟩
  apply BitVec.eq_of_toNat_eq
  unfold RequestKind.ofCode at h
  split at h <;> cases h <;> assumption

/-- The codes and their kinds, row by row of the table of R158. -/
def kindTable : List (Byte × RequestKind) :=
  [ (0x01, .shadeList), (0x02, .motion), (0x03, .mode), (0x04, .runControl)
  , (0x05, .configWrite), (0x06, .lampControl), (0x07, .recipeWrite), (0x08, .profileOpen)
  , (0x09, .profileData), (0x0A, .profileClose), (0x10, .statusRead), (0x11, .statusClear)
  , (0x12, .shadeRead), (0x13, .frameRead), (0x14, .profileRead), (0x15, .recipeRead)
  , (0x16, .configRead), (0x17, .noticeRead), (0x18, .noticeControl) ]

theorem mem_kindTable_iff (kind : Byte) (k : RequestKind) : (kind, k) ∈ kindTable ↔ kind = k.code := by
  constructor
  · have hall : ∀ row ∈ kindTable, row.1 = row.2.code := by decide
    exact fun h => hall _ h
  · rintro rfl
    cases k <;> decide

/-- Settles O17: each check has its lemma, and the table of R158 is read row by row. -/
theorem dispatchChecksInOrder : Obligations.DispatchChecksInOrder := by
  refine ⟨fun i p f s hi hc => ⟨fun hk => ?_, fun k hk => ⟨fun hp => ?_, fun hp hl => ?_⟩⟩,
    fun p tag kind payload s hc hw => ?_, fun k p => ?_, fun kind k => ?_, fun n => ⟨?_, ?_, ?_, ?_, ?_, ?_⟩⟩
  case refine_1 => exact exec_of_dispatch_same hi hc fun v t => dispatch_of_unknown v p t hk
  case refine_2 => exact exec_of_dispatch_same hi hc fun v t => dispatch_of_port_refused v t hk hp
  case refine_3 => exact exec_of_dispatch_same hi hc fun v t => dispatch_of_length_refused v t hk hp hl
  case refine_4 =>
    have hk : RequestKind.ofCode kind = none := by
      simp only [Instr.wellFormed, Bool.and_eq_true, Option.isNone_iff_eq_none] at hw
      exact hw.1
    exact exec_of_dispatch_same (i := .unknownKind p tag kind payload) (f := ⟨tag, kind, payload⟩) rfl hc
      fun v t => dispatch_of_unknown v p t hk
  case refine_5 => cases k <;> cases p <;> decide
  case refine_6 => exact (ofCode_eq_some_iff kind k).trans (mem_kindTable_iff kind k).symm
  case refine_7 => simp [RequestKind.lenAllowed]
  case refine_8 =>
    simp only [RequestKind.lenAllowed, Bool.and_eq_true, beq_iff_eq, decide_eq_true_eq]
    exact ⟨fun h => ⟨n / 5, by omega, by omega⟩, fun ⟨m, _, _⟩ => by omega⟩
  case refine_9 =>
    simp only [RequestKind.lenAllowed, Bool.and_eq_true, beq_iff_eq, decide_eq_true_eq]
    exact ⟨fun h => ⟨n / 3, by omega, by omega, by omega⟩, fun ⟨m, _, _, _⟩ => by omega⟩
  case refine_10 =>
    simp only [RequestKind.lenAllowed, Bool.and_eq_true, beq_iff_eq, decide_eq_true_eq]
    exact ⟨fun h => ⟨n / 5, by omega, by omega, by omega⟩, fun ⟨m, _, _, _⟩ => by omega⟩
  case refine_11 => simp [RequestKind.lenAllowed]
  case refine_12 => simp [RequestKind.lenAllowed]

end Sys2Proof.Machine
end

section
/-! PROOF. A frame taken character by character (R143 to R146): the levels of a line bring its characters, and the characters of a frame do what its request row does. -/

namespace Sys2Proof.Machine

/-! ## The levels of a character (R143) -/

/-- Bit `i` of the number of data bits, the least significant first. -/
theorem testBit_foldr_flagBit (bits : List Bool) (i : Nat) :
    (bits.foldr (fun b n => flagBit b + 2 * n) 0).testBit i = bits[i]?.getD false := by
  induction bits generalizing i with
  | nil => simp
  | cons b rest ih =>
    have hb : flagBit b < 2 := by cases b <;> decide
    cases i with
    | zero => cases b <;> simp [flagBit, Nat.testBit_zero]
    | succ i =>
      have hd : (flagBit b + 2 * rest.foldr (fun b n => flagBit b + 2 * n) 0) / 2 =
          rest.foldr (fun b n => flagBit b + 2 * n) 0 := by omega
      rw [List.foldr_cons, Nat.testBit_succ, hd, ih]
      rfl

/-- The data bits of a character, the least significant first. -/
def dataBits (c : Byte) : List Bool := (List.range 8).map fun i => c.getLsbD i

theorem length_dataBits (c : Byte) : (dataBits c).length = 8 := by simp [dataBits]

theorem characterLevels_eq (c : Byte) : characterLevels c = false :: dataBits c ++ [true] := rfl

theorem characterOfBits_dataBits (c : Byte) : characterOfBits (dataBits c) = c := by
  refine BitVec.eq_of_getLsbD_eq fun i hi => ?_
  rw [characterOfBits, BitVec.getLsbD_ofNat, testBit_foldr_flagBit]
  simp [dataBits, hi]

/-- The data bits still to come and the stop bit, at either level, complete a character (R143). -/
theorem lineCharacters_taking (more : List Bool) :
    ∀ (bits : List Bool) (stop : Bool) (rest : List Bool), bits.length + more.length = 8 →
      lineCharacters (.taking bits) (more ++ stop :: rest) =
        characterOfBits (bits ++ more) :: lineCharacters (if stop then .idle else .waitHigh) rest := by
  induction more with
  | nil =>
    intro bits stop rest h
    have hb : ¬bits.length < 8 := by simpa using h.ge
    simp [lineCharacters, LineReceiver.sample, hb]
  | cons level more ih =>
    intro bits stop rest h
    rw [List.length_cons] at h
    have hb : bits.length < 8 := by omega
    have hn := ih (bits ++ [level]) stop rest (by simp; omega)
    simpa [lineCharacters, LineReceiver.sample, hb] using hn

theorem lineCharacters_character (c : Byte) (stop : Bool) (rest : List Bool) :
    lineCharacters .idle (false :: dataBits c ++ stop :: rest) =
      c :: lineCharacters (if stop then .idle else .waitHigh) rest := by
  have h := lineCharacters_taking (dataBits c) [] stop rest (by simp [length_dataBits])
  rw [List.nil_append, characterOfBits_dataBits] at h
  exact h

theorem lineCharacters_characters (cs : List Byte) (rest : List Bool) :
    lineCharacters .idle (cs.flatMap characterLevels ++ rest) = cs ++ lineCharacters .idle rest := by
  induction cs with
  | nil => rfl
  | cons c cs ih =>
    have h := lineCharacters_character c true (cs.flatMap characterLevels ++ rest)
    simp only [if_true, ih] at h
    simpa [characterLevels_eq] using h

/-- Since the end of BOOT no character is found before a whole character time of high (R146). -/
theorem lineCharacters_settling (levels : List Bool) :
    ∀ n ≤ 9, ¬List.replicate 10 true <:+: List.replicate n true ++ levels →
      lineCharacters (.settling n) levels = [] := by
  induction levels with
  | nil => intros; rfl
  | cons level rest ih =>
    intro n hn h
    cases level with
    | false =>
      refine ih 0 (Nat.zero_le 9) fun hi => h (hi.trans ?_)
      exact ((List.suffix_cons false rest).trans (List.suffix_append _ _)).isInfix
    | true =>
      have hs : List.replicate n true ++ true :: rest = List.replicate (n + 1) true ++ rest := by
        simp [List.replicate_succ']
      have h9 : ¬9 ≤ n := fun h9 => by
        obtain rfl : n = 9 := Nat.le_antisymm hn h9
        exact h (hs ▸ (List.prefix_append _ rest).isInfix)
      have hr := ih (n + 1) (by omega) (hs ▸ h)
      simpa [lineCharacters, LineReceiver.sample, h9] using hr

/-! ## The characters of a frame as commands (R146) -/

/-- A state with other commands waiting and the receiver of a port inside a frame. -/
def State.amid (s : State) (p : Port) (r : Receiver) (cs : List Byte) : State :=
  ({ s with pending := cs.map (Instr.characterReceived p) ++ s.pending } : State).receiving p r

theorem receiving_receiving (s : State) (p : Port) (r q : Receiver) :
    (s.receiving p r).receiving p q = s.receiving p q := by
  simp [State.receiving, State.onPort]

theorem receiving_receiver (s : State) (p : Port) (r : Receiver) :
    ((s.receiving p r).ports.get p).receiver = r := by
  simp [State.receiving]

theorem receiving_settling (s : State) (p : Port) (r : Receiver) :
    ((s.receiving p r).ports.get p).settling = (s.ports.get p).settling := by
  simp [State.receiving]

theorem run_succ {s t : State} {n : Nat} (h : step s = .next t) :
    Host.Core.run Sys2Proof.core (n + 1) s = Host.Core.run Sys2Proof.core n t := by
  have h' : Sys2Proof.core.step s = .next t := h
  simp only [Host.Core.run, h']

/-- The step that takes a character amid a frame, from what the receiver does with it. -/
theorem step_amid {s : State} {p : Port} {r r' : Receiver} {c : Byte} {cs : List Byte}
    (h : exec (.characterReceived p c) (s.amid p r cs) = .next ((s.amid p r cs).receiving p r')) :
    step (s.amid p r (c :: cs)) = .next (s.amid p r' cs) := by
  have hs : step (s.amid p r (c :: cs)) = exec (.characterReceived p c) (s.amid p r cs) := rfl
  rw [hs, h, State.amid, receiving_receiving]
  rfl

/-- The payload characters of a frame are taken one by one. -/
theorem run_payload {s : State} {p : Port} (tag kind : Byte) (hb : s.device ≠ .boot)
    (hs : (s.ports.get p).settling = false) (n : Nat) (cs : List Byte) (more : List Byte) :
    ∀ taken : List Byte, more ≠ [] →
      Host.Core.run Sys2Proof.core (more.length + n)
          (s.amid p (.payload tag kind taken more.length) (more ++ cs)) =
        Host.Core.run Sys2Proof.core n (s.amid p (.checkHigh tag kind (taken ++ more)) cs) := by
  induction more with
  | nil => exact fun _ h => absurd rfl h
  | cons c more ih =>
    intro taken _
    obtain ⟨-, -, -, -, hpay, -, -⟩ := characterMovesTheReceiver.2 p c
      (s.amid p (.payload tag kind taken (more.length + 1)) (more ++ cs)) hb
      ((receiving_settling _ _ _).trans hs)
    obtain ⟨hlast, hmore⟩ := hpay tag kind taken (more.length + 1) (receiving_receiver _ _ _)
    have hlen : (c :: more).length + n = more.length + n + 1 := by simp; omega
    rw [hlen]
    cases more with
    | nil => simpa using run_succ (n := n) (step_amid (hlast rfl))
    | cons d more =>
      refine (run_succ (step_amid (hmore (by simp)))).trans ?_
      simpa using ih (taken ++ [c]) (by simp)

/-- A frame that completes does the same however its characters were taken. -/
theorem takeFrame_receiving {s : State} {p : Port} (r : Receiver) (f : Frame) (hb : s.device ≠ .boot) :
    (s.receiving p r).takeFrame p f = s.takeFrame p f := by
  have ho : (s.receiving p r).ownersRead p = s.ownersRead p :=
    State.ownersRead_congr rfl rfl (by
      simp [State.completing, State.receiving, State.onPort, PortState.receive])
  have hi : (s.receiving p r).onPort p PortState.frameIn = s.onPort p PortState.frameIn := by
    simp [State.receiving, State.onPort, PortState.frameIn, PortState.receive]
  have hd : (s.receiving p r).device ≠ .boot := hb
  simp only [State.takeFrame, State.takeFrameReading, if_neg hb, if_neg hd, ho, hi]

/-- From its LEN character on, a frame whose payload LEN can announce runs to its second CRC character. -/
theorem run_from_len {s : State} {p : Port} (tag kind : Byte) (hb : s.device ≠ .boot)
    (hs : (s.ports.get p).settling = false) (n : Nat) (cs payload : List Byte)
    (hl : payload.length ≤ 60) :
    Host.Core.run Sys2Proof.core (payload.length + n + 1)
        (s.amid p (.headerLen tag kind) (encode8 payload.length :: payload ++ cs)) =
      Host.Core.run Sys2Proof.core n (s.amid p (.checkHigh tag kind payload) cs) := by
  have hc : (encode8 payload.length).toNat = payload.length := by
    rw [encode8, BitVec.toNat_ofNat]
    omega
  obtain ⟨-, -, -, hlen, -⟩ := characterMovesTheReceiver.2 p (encode8 payload.length)
    (s.amid p (.headerLen tag kind) (payload ++ cs)) hb ((receiving_settling _ _ _).trans hs)
  obtain ⟨-, hzero, hpos⟩ := hlen tag kind (receiving_receiver _ _ _)
  rw [hc] at hzero hpos
  cases payload with
  | nil => simpa using run_succ (n := n) (step_amid (hzero rfl))
  | cons c payload =>
    refine (run_succ (step_amid (hpos (by simp) hl))).trans ?_
    exact run_payload tag kind hb hs n cs (c :: payload) [] (by simp)

/-- The characters of a frame, one command each, do what the port does with the frame. -/
theorem run_wireFrame {s : State} {p : Port} (f : Frame) (hb : s.device ≠ .boot)
    (hr : (s.ports.get p).receiver = .hunt) (hs : (s.ports.get p).settling = false)
    (hl : f.payload.length ≤ 60) {i : Instr} (hi : requestFrame i = some (p, f)) :
    Host.Core.run Sys2Proof.core (wireFrame f).length
        { s with pending := (wireFrame f).map (Instr.characterReceived p) ++ s.pending } =
      exec i s := by
  obtain ⟨tag, kind, payload⟩ := f
  obtain ⟨high, low, hw⟩ : ∃ high low, wordBytes (crcOf (frameBody ⟨tag, kind, payload⟩)) = [high, low] :=
    ⟨_, _, rfl⟩
  have hwire : wireFrame ⟨tag, kind, payload⟩ =
      syncChar :: tag :: kind :: encode8 payload.length :: (payload ++ [high, low]) := by
    rw [wireFrame, frameCrc_eq_wordBytes, hw]
    rfl
  have hlen : (wireFrame ⟨tag, kind, payload⟩).length = payload.length + 2 + 1 + 1 + 1 + 1 := by
    rw [hwire]
    simp
  have hcrc : crcOf (tag :: kind :: encode8 payload.length :: payload ++ [high, low]) = 0 := by
    have h := crcOf_append_wordBytes (frameBody ⟨tag, kind, payload⟩)
    rw [hw] at h
    exact h
  have hmoves := fun (r : Receiver) (c : Byte) (cs : List Byte) =>
    characterMovesTheReceiver.2 p c (s.amid p r cs) hb ((receiving_settling _ _ _).trans hs)
  have hsync : step { s with pending := (wireFrame ⟨tag, kind, payload⟩).map (Instr.characterReceived p) ++ s.pending } =
      .next (s.amid p .headerTag (tag :: kind :: encode8 payload.length :: (payload ++ [high, low]))) := by
    rw [hwire]
    exact (characterMovesTheReceiver.2 p syncChar
      { s with pending := _ ++ s.pending } hb hs).1 hr
  rw [hlen, run_succ hsync,
    run_succ (step_amid ((hmoves .headerTag tag _).2.1 (receiving_receiver _ _ _))),
    run_succ (step_amid ((hmoves (.headerKind tag) kind _).2.2.1 tag (receiving_receiver _ _ _)))]
  refine (run_from_len tag kind hb hs 2 [high, low] payload hl).trans ?_
  obtain ⟨-, -, -, -, -, hhigh, -⟩ := hmoves (.checkHigh tag kind payload) high [low]
  rw [run_succ (step_amid (hhigh tag kind payload (receiving_receiver _ _ _)))]
  obtain ⟨-, -, -, -, -, -, hlow⟩ := hmoves (.checkLow tag kind payload high) low []
  have hlast : step (s.amid p (.checkLow tag kind payload high) [low]) = .next (s.takeFrame p ⟨tag, kind, payload⟩) := by
    refine ((hlow tag kind payload high (receiving_receiver _ _ _)).2 i hi hcrc).trans ?_
    rw [exec_of_requestFrame _ hi]
    exact congrArg Host.Outcome.next (takeFrame_receiving _ _ hb)
  rw [run_succ hlast, exec_of_requestFrame s hi]
  rfl

/-- A well-formed request row stands for a frame whose payload a LEN character can announce (R144). -/
theorem length_payload_of_wellFormed {i : Instr} {p : Port} {f : Frame} (hw : i.wellFormed = true)
    (hi : requestFrame i = some (p, f)) : f.payload.length ≤ 60 := by
  cases i <;> cases hi
  case unknownKind => exact of_decide_eq_true (Bool.and_elim_right hw)
  all_goals exact of_decide_eq_true hw

/-- Settles O12: the levels of a line by the bits of its characters, a frame by its characters in turn. -/
theorem frameReceivedByCharacters : Obligations.FrameReceivedByCharacters := by
  refine ⟨fun c => rfl, lineCharacters_characters, fun c low rest => ?_,
    fun s p levels rest => ⟨fun h => ?_, fun h => ⟨fun hq => ?_, ?_⟩⟩, fun i p f s hi hw hb hr hs q hq => ?_⟩
  · have hd : (characterLevels c).dropLast = false :: dataBits c := by
      rw [characterLevels_eq, List.dropLast_concat]
    have h := lineCharacters_character c false (List.replicate low false ++ true :: rest)
    rw [if_neg (by decide), lineCharacters_waitHigh] at h
    rw [hd, List.replicate_succ]
    simpa using h
  · simp [State.lineCommands, PortState.lineReceiver, h]
  · have hn := lineCharacters_settling levels 0 (Nat.zero_le 9) hq
    simp [State.lineCommands, PortState.lineReceiver, h, hn]
  · simp only [State.lineCommands, PortState.lineReceiver, h, if_true]
    rfl
  · have hl : f.payload.length ≤ 60 := length_payload_of_wellFormed hw hi
    rw [hq]
    exact run_wireFrame f hb hr hs hl hi

end Sys2Proof.Machine
end

section
/-! PROOF. The three data requests and the freshness they keep (R4, R17, R27, R94 to R98, R153, R154). -/

namespace Sys2Proof.Machine

/-! ## Fields of a payload, however they are read (R157) -/

theorem unsigned16_eq_toNat (hi lo : Byte) : unsigned16 hi lo = (hi ++ lo).toNat := by
  rw [unsigned16, BitVec.toNat_append, Nat.shiftLeft_eq, Nat.mul_comm hi.toNat (2 ^ 8),
    ← Nat.two_pow_add_eq_or_of_lt lo.isLt, Nat.mul_comm (2 ^ 8)]

theorem signed16_eq_toInt (hi lo : Byte) : signed16 hi lo = (hi ++ lo).toInt := by
  rw [signed16, unsigned16_eq_toNat, BitVec.toInt_eq_toNat_cond]
  have hlt : (hi ++ lo).toNat < 65536 := (hi ++ lo).isLt
  split <;> split <;> simp only [Nat.reduceAdd, Nat.reducePow] at * <;> omega

theorem bitField_eq_toNat (c : Byte) (low width : Nat) :
    bitField c low width = (c.extractLsb' low width).toNat := by
  simp [bitField, BitVec.extractLsb'_toNat, Nat.shiftRight_eq_div_pow]

/-! ## The refresh of a port as its frame is taken (R153) -/

theorem State.fresh_taking (p : Port) (f : Frame) (s : State) :
    (((s.taking p f).ports.get p).fresh) = (s.ports.get p).fresh := by
  rw [State.taking_get]
  rfl

/-- The notice of a refresh, where the port was STALE. -/
def State.staleNotices (p : Port) (s : State) : List Notice :=
  if (s.ports.get p).fresh = true then [] else [.stale]

theorem State.onPort_refreshed_taking (n : Nat) (p : Port) (f : Frame) (s : State) :
    (s.taking p f).onPort p (PortState.refreshed n) = (s.onPort p (PortState.refreshed n)).taking p f := by
  simp [State.taking, State.onPort, PortState.refreshed, PortState.frameIn, PortState.receive]

theorem State.refresh_eq_of_other {p : Port} (hp : p ≠ .vis) (s : State) :
    s.refresh p =
      (s.marked Sticky.clear (s.staleNotices p)).onPort p (PortState.refreshed (s.params.timeout p)) := by
  have hf : s.refresh p =
      if (s.ports.get p).fresh = true then s.onPort p (PortState.refreshed (s.params.timeout p))
      else (s.onPort p (PortState.refreshed (s.params.timeout p))).notify .stale := by
    cases p
    case vis => exact absurd rfl hp
    all_goals rfl
  rw [hf, State.staleNotices]
  split
  · rw [State.marked_nothing]
  · rw [State.notify_eq_marked, State.marked_onPort (markBlind_refreshed _)]

/-- What a data request's owner finds: the frame taken and its port refreshed. -/
theorem State.refresh_taking_of_other {p : Port} (hp : p ≠ .vis) (f : Frame) (s : State) :
    (s.taking p f).refresh p =
      ((s.marked Sticky.clear (s.staleNotices p)).onPort p
        (PortState.refreshed (s.params.timeout p))).taking p f := by
  have hn : (s.taking p f).staleNotices p = s.staleNotices p := by
    rw [State.staleNotices, State.fresh_taking, State.staleNotices]
  rw [State.refresh_eq_of_other hp, hn, State.taking_marked, State.onPort_refreshed_taking]
  rfl

theorem Sticky.clear_union (g : Sticky) : Sticky.clear.union g = g := by
  simp [Sticky.union, Sticky.clear]

/-- Marks of an owner on a port that has been refreshed are marks made before the refresh. -/
theorem State.marked_refreshed_taking (p : Port) (f : Frame) (n : Nat) (g : Sticky)
    (ms ns : List Notice) (s : State) :
    (((s.marked Sticky.clear ms).onPort p (PortState.refreshed n)).taking p f).marked g ns =
      ((s.marked g (ms ++ ns)).onPort p (PortState.refreshed n)).taking p f := by
  rw [State.taking_marked, ← State.marked_onPort (markBlind_refreshed n), State.marked_marked,
    Sticky.clear_union]

/-! ## MOTION (R27, R29) -/

theorem State.serveMotion_eq (s1 s0 v1 v0 r : Byte) (s : State) {steer : Int} {speed : Nat}
    {clamped town : Bool} (hsteer : steer = max (-7200) (min 7200 (s1 ++ s0).toInt))
    (hspeed : speed = min 1500 (v1 ++ v0).toNat)
    (hclamped : clamped = decide (steer ≠ (s1 ++ s0).toInt ∨ speed ≠ (v1 ++ v0).toNat))
    (htown : town =
      (if speed < s.params.townOn then true
        else if s.params.townOff < speed then false else s.steering.town)) :
    s.serveMotion [s1, s0, v1, v0, r] =
      ({ s with
          steering :=
            { s.steering with
              latch := { steer := steer, speed := speed, reverse := r.getLsbD 0, valid := true }
              town := town } }.raise { Sticky.clear with inputClamp := clamped },
        [if clamped = true then 0x01 else 0x00] ++ wordBytes (BitVec.ofInt 16 steer) ++
          wordBytes (BitVec.ofNat 16 speed) ++ [if town = true then 0x01 else 0x00]) := by
  have hs : clampSigned 7200 (s1 ++ s0).toInt = steer := hsteer.symm
  have ht : townAfter s.params speed s.steering.town = town := htown.symm
  have hc : (decide (steer ≠ (s1 ++ s0).toInt) || decide (speed ≠ (v1 ++ v0).toNat)) = clamped := by
    rw [hclamped, Bool.decide_or]
  have hr : (if clamped = true then Result.okClamped else Result.ok).code =
      if clamped = true then 0x01 else 0x00 := by
    cases clamped <;> rfl
  simp only [State.serveMotion, signed16_eq_toInt, unsigned16_eq_toNat, hs, ← hspeed, ht, hc, hr,
    bitAt_eq_getLsbD, clampFlag, encodeInt16_eq_wordBytes, encode16_eq_wordBytes, encode8_flagBit]

/-- Settles O27: the owner's equation on a port that has been refreshed. -/
theorem motionIsStored : Obligations.MotionIsStored := by
  intro tag s1 s0 v1 v0 r s steer speed clamped town hs hsteer hspeed hclamped htown
  refine exec_of_serve (k := .motion) (f := ⟨tag, _, [s1, s0, v1, v0, r]⟩) rfl rfl hs rfl rfl ?_
  simp only [State.serve, State.refresh_taking_of_other (p := .chs) nofun]
  refine (State.serveMotion_eq s1 s0 v1 v0 r _ hsteer hspeed hclamped (by exact htown)).trans ?_
  rw [State.raise_eq_marked]
  refine congrArg (·, _) ?_
  refine (State.marked_refreshed_taking .chs ⟨tag, _, [s1, s0, v1, v0, r]⟩ s.params.chsTimeout _
    (s.staleNotices .chs) []
    { s with
      steering :=
        { s.steering with
          latch := { steer := steer, speed := speed, reverse := r.getLsbD 0, valid := true }
          town := town } }).trans ?_
  rw [List.append_nil]
  rfl

/-! ## MODE (R94 to R98) -/

theorem modeOfCode_getD (n : Nat) (m : BeamMode) :
    (modeOfCode n).getD m =
      if n = 0 then .off else if n = 1 then .low else if n = 2 then .auto else if n = 3 then .high
      else m := by
  unfold modeOfCode
  split <;> simp_all

theorem modeOfCode_isNone (n : Nat) : (modeOfCode n).isNone = decide (4 ≤ n) := by
  rcases n with _ | _ | _ | _ | n <;> simp [modeOfCode]

theorem weatherAfter_eq (n : Nat) (w : Bool) :
    weatherAfter n w = if n = 0 then w else if n = 1 then true else if n = 2 then false else !w := by
  unfold weatherAfter
  split <;> simp_all

/-- A flash command by its code and whether it starts a flash (R97, R98). -/
theorem State.applyFlash_eq (s : State) {flash : Nat} (duration : Nat) (hf : flash < 4) {starts : Bool}
    (hstarts : starts =
      decide (flash = 1 ∧ 1 ≤ duration ∧ s.device = .run ∧ s.supervisor.level ≠ .safe)) :
    s.applyFlash flash duration =
      { request :=
          if starts = true then .start (min 200 duration) else if flash = 2 then .cancel
          else s.beam.flash
        ignored := decide (flash = 3 ∨ (flash = 1 ∧ starts = false))
        clamped := decide (starts = true ∧ 200 < duration) } := by
  have h : flash = 0 ∨ flash = 1 ∨ flash = 2 ∨ flash = 3 := by omega
  rcases h with rfl | rfl | rfl | rfl
  · simp [State.applyFlash, hstarts]
  · cases hs : starts with
    | true =>
      rw [hs] at hstarts
      obtain ⟨-, hd, hrun, hlevel⟩ := of_decide_eq_true hstarts.symm
      have hn : ¬(duration = 0 ∨ s.flashAllowed = false) := by
        simp [State.flashAllowed, hrun, hlevel]
        omega
      simp [State.applyFlash, if_neg hn]
    | false =>
      rw [hs] at hstarts
      have hno : duration = 0 ∨ s.flashAllowed = false := by
        have hall := of_decide_eq_false hstarts.symm
        by_cases hd : duration = 0
        · exact .inl hd
        · refine .inr ?_
          by_cases hrun : s.device = .run
          · have hl : s.supervisor.level = .safe := by
              by_contra hl
              exact hall ⟨rfl, by omega, hrun, hl⟩
            simp [State.flashAllowed, hl]
          · simp [State.flashAllowed, hrun]
      simp [State.applyFlash, if_pos hno]
  · simp [State.applyFlash, hstarts]
  · simp [State.applyFlash, hstarts]

theorem State.serveMode_eq (c trim duration : Byte) (s : State) {code weather flash : Nat}
    {mode : BeamMode} {request : FlashRequest} {starts ignored clamped wet : Bool}
    (hcode : code = (c.extractLsb' 0 3).toNat) (hweather : weather = (c.extractLsb' 3 2).toNat)
    (hflash : flash = (c.extractLsb' 5 2).toNat)
    (hmode : mode =
      (if code = 0 then .off else if code = 1 then .low else if code = 2 then .auto
        else if code = 3 then .high else s.beam.mode))
    (hwet : wet =
      (if weather = 0 then s.beam.weather else if weather = 1 then true
        else if weather = 2 then false else !s.beam.weather))
    (hstarts : starts =
      decide (flash = 1 ∧ 1 ≤ duration.toNat ∧ s.device = .run ∧ s.supervisor.level ≠ .safe))
    (hignored : ignored = decide (flash = 3 ∨ (flash = 1 ∧ starts = false)))
    (hrequest : request =
      (if starts = true then .start (min 200 duration.toNat) else if flash = 2 then .cancel
        else s.beam.flash))
    (hclamped : clamped = decide (63 < trim.toNat ∨ (starts = true ∧ 200 < duration.toNat))) :
    s.serveMode [c, trim, duration] =
      ({ s with beam := { mode := mode, trim := min 63 trim.toNat, weather := wet, flash := request } }.raise
          { Sticky.clear with inputClamp := clamped },
        [ if 4 ≤ code ∨ ignored = true then 0x02 else if clamped = true then 0x01 else 0x00
        , BitVec.ofNat 8 (modeCode mode), BitVec.ofNat 8 (min 63 trim.toNat)
        , if wet = true then 0x01 else 0x00 ] ++ encodeFlash request) := by
  have hf : flash < 4 := hflash ▸ (c.extractLsb' 5 2).isLt
  have hfl := s.applyFlash_eq duration.toNat hf hstarts
  rw [← hrequest, ← hignored] at hfl
  have hm : (modeOfCode code).getD s.beam.mode = mode := (modeOfCode_getD _ _).trans hmode.symm
  have hw : weatherAfter weather s.beam.weather = wet := (weatherAfter_eq _ _).trans hwet.symm
  have hc : (decide (63 < trim.toNat) || decide (starts = true ∧ 200 < duration.toNat)) = clamped := by
    rw [hclamped, Bool.decide_or]
  have hr :
      (if ((modeOfCode code).isNone || ignored) = true then Result.okPartial
        else if clamped = true then .okClamped else .ok).code =
      if 4 ≤ code ∨ ignored = true then 0x02 else if clamped = true then 0x01 else 0x00 := by
    simp only [modeOfCode_isNone, Bool.or_eq_true, decide_eq_true_eq]
    split
    · rfl
    · split <;> rfl
  simp only [State.serveMode, bitField_eq_toNat, ← hcode, ← hweather, ← hflash, hfl, hm, hw, hc, hr,
    clampFlag, encode8_flagBit]
  rfl

/-- Settles O50: the owner's equation on a port that has been refreshed. -/
theorem modeSetsTheBeam : Obligations.ModeSetsTheBeam := by
  intro tag c trim duration s code weather flash mode request starts ignored clamped wet hs hcode
    hweather hflash hmode hwet hstarts hignored hrequest hclamped
  refine exec_of_serve (k := .mode) (f := ⟨tag, _, [c, trim, duration]⟩) rfl rfl hs rfl rfl ?_
  simp only [State.serve, State.refresh_taking_of_other (p := .cab) nofun]
  refine (State.serveMode_eq c trim duration _ hcode hweather hflash (by exact hmode) (by exact hwet)
    (by exact hstarts) hignored (by exact hrequest) hclamped).trans ?_
  rw [State.raise_eq_marked]
  refine congrArg₂ Prod.mk ?_ (by cases request <;> rfl)
  refine (State.marked_refreshed_taking .cab ⟨tag, _, [c, trim, duration]⟩ s.params.cabTimeout _
    (s.staleNotices .cab) []
    { s with beam := { mode := mode, trim := min 63 trim.toNat, weather := wet, flash := request } }).trans ?_
  rw [List.append_nil]
  rfl

end Sys2Proof.Machine
end

section
/-! PROOF. A change of the VIS port's freshness as the part takes it: SHADE_LIST and the end of a freshness timer (R4, R15 to R18, R153, R154, assumption 5). -/

namespace Sys2Proof.Machine

/-! ## The report of the change (R176) -/

/-- Whether the report of a VIS change is left to the frame start that comes with it. -/
def State.visChangeWaits (s : State) : Bool := s.compositionNext && Config.visReportWaits s.choices

theorem State.frameStart_of_visChangeWaits {s : State} (h : s.visChangeWaits = true) :
    s.pending.head? = some .frameStart ∧ s.engine.timer.isSome = true ∧ s.engine.flight = none := by
  simp only [State.visChangeWaits, State.compositionNext, Bool.and_eq_true, decide_eq_true_eq,
    Option.isNone_iff_eq_none] at h
  exact ⟨h.1.1.1, h.1.1.2, h.1.2⟩

theorem State.reportVisChange_eq (b : Bool) (s : State) :
    s.reportVisChange b =
      if s.visChangeWaits = true then s
      else { s with supervisor := { s.supervisor with recVisFresh := b } }.recompute := by
  simp only [State.reportVisChange, State.visChangeWaits, Bool.and_eq_true]
  rfl

theorem State.reportVisChange_marked (b : Bool) (f : Sticky) (ns : List Notice) (s : State) :
    (s.marked f ns).reportVisChange b = (s.reportVisChange b).marked f ns := by
  have h := State.recompute_marked f ns { s with supervisor := { s.supervisor with recVisFresh := b } }
  have hw : (s.marked f ns).visChangeWaits = s.visChangeWaits := rfl
  rw [State.reportVisChange_eq, State.reportVisChange_eq, hw]
  split
  · rfl
  · exact h

theorem State.reportVisChange_onPort {g : PortState → PortState} (hg : MarkBlind g) (b : Bool) (p : Port)
    (s : State) : (s.onPort p g).reportVisChange b = (s.reportVisChange b).onPort p g := by
  have h := State.recompute_onPort hg p { s with supervisor := { s.supervisor with recVisFresh := b } }
  have hw : (s.onPort p g).visChangeWaits = s.visChangeWaits := rfl
  rw [State.reportVisChange_eq, State.reportVisChange_eq, hw]
  split
  · rfl
  · exact h

/-! ## The end of a freshness timer (R18, R28, R55, R100, R154) -/

/-- A FRESH port's timer runs out: the port's own change comes last of all. -/
theorem State.freshnessExpiry_of_fresh {p : Port} {s : State} (h : (s.ports.get p).fresh = true) :
    s.freshnessExpiry p =
      ((s.marked Sticky.clear [.stale]).onPort p PortState.staled).tellDependents p := by
  rw [State.freshnessExpiry, if_pos h, State.notify_eq_marked]
  exact congrArg (State.tellDependents p) (State.marked_onPort markBlind_staled p _ _ s).symm

theorem State.shadesStale_eq (s : State) :
    s.shadesStale =
      { s with
        shades :=
          { s.shades with
            table :=
              s.shades.table.filterMap fun (e : ShadeEntry) =>
                if e.state ≠ ShadeState.active then some e
                else if s.params.holdFrames = 0 ∨ e.cls = RoadClass.sign then
                  if e.v < 255 then some { e with state := .fading, hold := 0, veff := e.v }
                  else none
                else
                  some { e with state := .hold, hold := s.params.holdFrames, veff := e.v } } } := by
  have h := funext (ShadeEntry.release_eq s.params.holdFrames)
  rw [State.shadesStale, h]

theorem State.freshnessExpiry_vis_eq {s : State} (h : s.ports.vis.fresh = true) :
    s.freshnessExpiry .vis =
      ((s.shadesStale.reportVisChange false).marked Sticky.clear [.stale]).onPort .vis PortState.staled := by
  rw [State.freshnessExpiry_of_fresh (p := .vis) h, ← State.reportVisChange_marked,
    ← State.reportVisChange_onPort markBlind_staled]
  rfl

theorem State.lowerBeam_eq (s : State) :
    s.lowerBeam =
      { s with beam := { s.beam with mode := if s.beam.mode = BeamMode.high then .auto else s.beam.mode } } := by
  unfold State.lowerBeam
  split
  · rfl
  · rfl

/-- The end of a session that stands open, as a change of Pattern Memory and a mark. -/
theorem State.closeSession_eq (s : State) :
    s.closeSession =
      { s with patterns := { s.patterns with session := none } }.marked Sticky.clear
        (if s.patterns.session.isSome = true then [.edit] else []) := by
  obtain ⟨hn, he⟩ | ⟨hs, he⟩ := s.closeSession_cases
  · rw [he, hn, if_neg (by decide), State.marked_nothing, ← hn]
  · rw [he, if_pos hs, State.notify_eq_marked]

/-- Settles O19: the three ports in turn, and what every command does to the VIS port's freshness. -/
theorem freshnessExpiryTellsTheDependents : Obligations.FreshnessExpiryTellsTheDependents := by
  intro s
  refine ⟨fun hf => ⟨s.visChangeWaits, State.frameStart_of_visChangeWaits, fun released hr => ?_⟩,
    fun hf => ?_, fun hf => ?_, fun c t hc h => ?_⟩
  · have hrel : released = s.shadesStale := hr.trans s.shadesStale_eq.symm
    have he := State.freshnessExpiry_vis_eq hf
    rw [State.reportVisChange_eq] at he
    rw [hrel]
    exact congrArg Host.Outcome.next he
  · exact congrArg Host.Outcome.next (State.freshnessExpiry_of_fresh (p := .chs) hf)
  · refine congrArg Host.Outcome.next ((State.freshnessExpiry_of_fresh (p := .cab) hf).trans ?_)
    rw [State.tellDependents, State.lowerBeam_eq, State.closeSession_eq]
    refine (State.marked_onPort markBlind_staled .cab Sticky.clear _ (State.marked Sticky.clear [.stale]
      { s with
        beam := { s.beam with mode := if s.beam.mode = BeamMode.high then .auto else s.beam.mode }
        patterns := { s.patterns with session := none } })).symm.trans ?_
    rw [State.marked_marked, Sticky.union_clear]
    have hn : [Notice.stale] ++ (if s.patterns.session.isSome = true then [Notice.edit] else []) =
        if s.patterns.session.isSome = true then [.stale, .edit] else [.stale] := by
      split <;> rfl
    exact congrArg (fun ns => State.onPort .cab PortState.staled (State.marked Sticky.clear ns _)) hn
  · obtain ⟨b, hv, hmoved⟩ | ⟨hv, hkept⟩ := exec_vis h hc
    · refine ⟨fun b' hb => ?_, fun hn => absurd (hv.symm.trans hn) nofun⟩
      obtain rfl : b = b' := Option.some.inj (hv.symm.trans hb)
      exact ⟨hmoved.1, hmoved.2.1⟩
    · exact ⟨fun b hb => absurd (hv.symm.trans hb) nofun, fun _ => hkept.1⟩

/-! ## SHADE_LIST (R4, R15 to R17) -/

theorem State.applyMerge_eq (m : Merge) (s : State) :
    s.applyMerge m =
      { s with
        shades :=
          { table := m.table
            traffic := s.shades.traffic
            ignored := min 65535 (s.shades.ignored + m.ignored)
            coalesced := min 65535 (s.shades.coalesced + m.coalesced) } }.marked
        { Sticky.clear with
          inputClamp := m.clamped
          coalesced := decide (0 < m.coalesced)
          objIgnored := decide (0 < m.ignored) }
        (if 0 < m.coalesced then [.shade] else []) := by
  simp only [State.applyMerge, State.raise_eq_marked, State.notify_eq_marked, State.marked_marked,
    Sticky.union_clear, List.nil_append]
  split <;> rfl

/-- The VIS port refreshed as its frame is taken: the freshness change is heard first. -/
theorem State.refresh_taking_vis (f : Frame) (s : State) :
    (s.taking .vis f).refresh .vis =
      ((if s.ports.vis.fresh = true then s
        else (s.reportVisChange true).marked Sticky.clear [.stale]).onPort
        .vis (PortState.refreshed s.params.visTimeout)).taking .vis f := by
  have hf : ((s.taking .vis f).ports.get .vis).fresh = s.ports.vis.fresh := State.fresh_taking .vis f s
  have hr := State.onPort_refreshed_taking s.params.visTimeout .vis f s
  rw [State.refresh, hf]
  split
  · exact hr
  · rw [State.notify_eq_marked]
    refine (congrArg (fun t => (State.marked Sticky.clear [.stale] t).reportVisChange true) hr).trans ?_
    rw [State.reportVisChange_marked, State.taking, State.reportVisChange_onPort (markBlind_taking f),
      State.reportVisChange_onPort (markBlind_refreshed _), ← State.marked_onPort (markBlind_taking f),
      ← State.marked_onPort (markBlind_refreshed _)]
    rfl

theorem State.serveShadeList_run {m : Merge} {s : State} (payload : List Byte) (hd : s.device = .run)
    (hm : m = mergeList s.params.holdFrames (readObjects payload) s.shades.table) :
    s.serveShadeList payload =
      (s.applyMerge m,
        [if 0 < m.ignored then 0x02 else if m.clamped = true then 0x01 else 0x00,
          BitVec.ofNat 8 m.matched, BitVec.ofNat 8 m.inserted, BitVec.ofNat 8 m.coalesced,
          BitVec.ofNat 8 m.ignored, BitVec.ofNat 8 m.table.length]) := by
  have hr : m.result.code = if 0 < m.ignored then 0x02 else if m.clamped = true then 0x01 else 0x00 := by
    rw [Merge.result]
    split
    · rfl
    · split <;> rfl
  simp only [State.serveShadeList, if_pos hd, ← hm, hr]
  rfl

/-- What SHADE_LIST's owner finds of the state in which the list came. -/
structure HeardOf (s heard : State) : Prop where
  device : heard.device = s.device
  params : heard.params = s.params
  shades : heard.shades = s.shades

/-- Settles O20: the owner's equation on the VIS port that has been refreshed. -/
theorem shadeListIsMergedInRun : Obligations.ShadeListIsMergedInRun := by
  intro tag payload s hs hm5 h60
  refine ⟨s.visChangeWaits, State.frameStart_of_visChangeWaits, fun heard hheard => ?_⟩
  rw [← State.reportVisChange_eq] at hheard
  have hl : RequestKind.shadeList.lenAllowed payload.length = true := by
    simp [RequestKind.lenAllowed, hm5, h60]
  have hh : HeardOf s heard := by
    rw [hheard]
    constructor <;> split <;> simp [State.reportVisChange_eq] <;> split <;> simp
  have href : (s.taking .vis ⟨tag, RequestKind.shadeList.code, payload⟩).refresh .vis =
      (heard.onPort .vis (PortState.refreshed s.params.visTimeout)).taking .vis ⟨tag, _, payload⟩ :=
    hheard ▸ State.refresh_taking_vis _ s
  refine ⟨fun hd m hmerge => ?_, fun hd => ?_⟩
  · refine exec_of_serve (k := .shadeList) (f := ⟨tag, _, payload⟩) rfl rfl hs rfl hl ?_
    rw [State.serve, href]
    refine (State.serveShadeList_run (m := m) payload (by exact hh.device.trans hd) ?_).trans ?_
    · exact hmerge.trans (by rw [← hh.params, ← hh.shades]; rfl)
    · refine congrArg (·, _) ?_
      rw [State.applyMerge_eq]
      refine (State.taking_marked .vis ⟨tag, _, payload⟩ _ _ (State.onPort .vis (PortState.refreshed s.params.visTimeout)
        { heard with
          shades :=
            { table := m.table
              traffic := heard.shades.traffic
              ignored := min 65535 (heard.shades.ignored + m.ignored)
              coalesced := min 65535 (heard.shades.coalesced + m.coalesced) } })).trans ?_
      rw [← State.marked_onPort (markBlind_refreshed _), hh.shades]
  · refine exec_of_serve (k := .shadeList) (f := ⟨tag, _, payload⟩) rfl rfl hs rfl hl ?_
    have hn : ¬((heard.onPort .vis (PortState.refreshed s.params.visTimeout)).taking .vis
        ⟨tag, RequestKind.shadeList.code, payload⟩).device = .run := by
      have hd' : heard.device = .standby := hh.device.trans hd
      simp [State.taking, hd']
    simp only [State.serve, href, State.serveShadeList, if_neg hn]
    rfl

end Sys2Proof.Machine
end

section
/-! PROOF. The encoder's events (R31 to R33), and which commands alone move TOWN, lower the slip counter and clear the safe latch (R29, R32, R122). -/

namespace Sys2Proof.Machine

/-! ## What the owners' answers leave of TOWN, the slip counter and the safe latch -/

theorem limitTest_flags (limit : Nat) (x : Steering) :
    (limitTest limit x).town = x.town ∧ (limitTest limit x).slips = x.slips := by
  unfold limitTest
  split <;> exact ⟨rfl, rfl⟩

theorem State.serveConfigWrite_flags (payload : List Byte) (s : State) :
    (s.serveConfigWrite payload).1.steering.town = s.steering.town ∧
      (s.serveConfigWrite payload).1.steering.slips = s.steering.slips := by
  simp only [State.serveConfigWrite, State.raise_steering]
  split
  · exact limitTest_flags _ _
  · exact ⟨rfl, rfl⟩

theorem State.serveMotion_slips (payload : List Byte) (s : State) :
    (s.serveMotion payload).1.steering.slips = s.steering.slips := by
  unfold State.serveMotion
  split <;> simp

theorem State.serveRunControl_flags (payload : List Byte) (s : State) :
    (s.serveRunControl payload).1.steering.town = s.steering.town ∧
      (s.serveRunControl payload).1.steering.slips = s.steering.slips := by
  rcases s.serveRunControl_cases payload with e | ⟨-, -, -, e⟩ | ⟨-, -, e⟩ | ⟨-, e⟩ <;>
    simp [e, Steering.restarted]

/-- No request but MOTION moves TOWN, and none lowers the slip counter. -/
theorem State.serve_flags (v : StatusOwner → State) (k : RequestKind) (p : Port) (payload : List Byte)
    (s : State) :
    (k ≠ .motion → (s.serve v k p payload).1.steering.town = s.steering.town) ∧
      (s.serve v k p payload).1.steering.slips = s.steering.slips := by
  cases k with
  | motion =>
    refine ⟨fun h => absurd rfl h, ?_⟩
    show ((s.refresh p).serveMotion payload).1.steering.slips = _
    simp [State.serveMotion_slips]
  | runControl =>
    obtain ⟨ht, hs⟩ := s.serveRunControl_flags payload
    exact ⟨fun _ => ht, hs⟩
  | configWrite =>
    obtain ⟨ht, hs⟩ := s.serveConfigWrite_flags payload
    exact ⟨fun _ => ht, hs⟩
  | statusClear =>
    obtain ⟨g, -, e⟩ := s.serveStatusClear_cases p payload
    simp [State.serve, e]
  | _ => simp [State.serve, State.serveNoticeControl]

theorem State.skipFrame_safeLatch (s : State) (h : s.supervisor.safeLatch = true) :
    s.skipFrame.supervisor.safeLatch = true := by
  simp only [State.skipFrame]
  split <;> simp [h]

theorem State.frameStart_safeLatch (s : State) (h : s.supervisor.safeLatch = true) :
    s.frameStart.supervisor.safeLatch = true := by
  obtain ⟨-, e⟩ | ⟨-, e⟩ := s.frameStart_cases <;> rw [e]
  · simpa [State.timed] using h
  · exact State.skipFrame_safeLatch _ h

/-- No request but a RUN_CONTROL of STOP or RESTART clears the safe latch. -/
theorem State.serve_safeLatch (v : StatusOwner → State) (k : RequestKind) (p : Port)
    (payload : List Byte) (s : State) (h : s.supervisor.safeLatch = true)
    (hk : ¬(k = .runControl ∧ (payload = [2] ∨ payload = [3]))) :
    (s.serve v k p payload).1.supervisor.safeLatch = true := by
  cases k with
  | runControl =>
    show (s.serveRunControl payload).1.supervisor.safeLatch = true
    rcases s.serveRunControl_cases payload with e | ⟨-, -, -, e⟩ | ⟨-, hp, e⟩ | ⟨hp, e⟩
    · rwa [e]
    · rw [e, State.startRun_eq]
      exact State.frameStart_safeLatch _ (by simpa using h)
    · exact absurd ⟨rfl, .inl hp⟩ hk
    · exact absurd ⟨rfl, .inr hp⟩ hk
  | statusClear =>
    obtain ⟨g, -, e⟩ := s.serveStatusClear_cases p payload
    simp [State.serve, e, h]
  | _ => simp [State.serve, State.serveNoticeControl, h]

/-! ## What the part's events leave of them -/

/-- TOWN as it was, the slip counter not lowered, the safe latch not cleared. -/
structure FlagsKept (s t : State) : Prop where
  town : t.steering.town = s.steering.town
  slips : s.steering.slips ≤ 65535 → s.steering.slips ≤ t.steering.slips
  safeLatch : s.supervisor.safeLatch = true → t.supervisor.safeLatch = true

theorem flagsKept_of_eq {s t : State} (h1 : t.steering.town = s.steering.town)
    (h2 : t.steering.slips = s.steering.slips) (h3 : t.supervisor.safeLatch = s.supervisor.safeLatch) :
    FlagsKept s t :=
  ⟨h1, fun _ => h2.ge, fun h => h3.trans h⟩

theorem State.encoderEdge_flags (line : EncoderLine) (edge : Edge) (s : State) :
    (s.encoderEdge line edge).steering.town = s.steering.town ∧
      (s.encoderEdge line edge).steering.slips = s.steering.slips := by
  have hset : (s.steering.setLine line edge).town = s.steering.town ∧
      (s.steering.setLine line edge).slips = s.steering.slips := by
    cases line <;> exact ⟨rfl, rfl⟩
  simp only [State.encoderEdge]
  split
  · exact hset
  · split
    · exact hset
    · obtain ⟨ht, hs⟩ := limitTest_flags s.params.encoderLimit { s.steering.setLine line edge with count := _ }
      exact ⟨ht.trans hset.1, hs.trans hset.2⟩

theorem State.encoderIndex_flags (s : State) : FlagsKept s s.encoderIndex := by
  refine ⟨?_, fun h => ?_, fun h => by simpa using h⟩
  · unfold State.encoderIndex
    split <;> rfl
  · simp only [State.encoderIndex]
    split
    · exact le_rfl
    · split
      · exact le_bump h
      · exact le_rfl

theorem State.freshnessExpiry_flags (p : Port) (s : State) : FlagsKept s (s.freshnessExpiry p) := by
  refine flagsKept_of_eq ?_ ?_ (by simp) <;>
    (unfold State.freshnessExpiry; split <;>
      cases p <;> simp [State.tellDependents, State.shadesStale, State.motionStale])

/-- No event of the part but a hard reset moves the flags. -/
theorem flagsKept_of_partEvent {c : Instr} {e : State → State} (s : State) (hc : c ≠ .hardReset)
    (he : partEvent c = some e) : FlagsKept s (e s) := by
  cases c <;> simp only [partEvent, reduceCtorEq, Option.some.injEq] at he <;> subst he
  case freshnessTimerExpiry p => exact s.freshnessExpiry_flags p
  case hardReset => exact absurd rfl hc
  case encoderEdge line edge =>
    obtain ⟨ht, hs⟩ := s.encoderEdge_flags line edge
    exact flagsKept_of_eq ht hs (by simp)
  case indexEvent => exact s.encoderIndex_flags
  case frameStart =>
    refine ⟨by simp, fun _ => by simp, fun h => ?_⟩
    obtain ⟨-, e⟩ | ⟨-, e⟩ := s.frameTimerExpiry_cases <;> rw [e]
    · exact h
    · exact s.frameStart_safeLatch h
  all_goals exact flagsKept_of_eq (by simp) (by simp) (by simp)

/-! ## The frame that a command completes -/

/-- The row or the character whose frame reaches an owner. -/
theorem completedFrame_cases {s : State} {c : Instr} {p : Port} {f : Frame}
    (h : s.completedFrame c = some (p, f)) :
    requestFrame c = some (p, f) ∨
      ∃ char high, c = .characterReceived p char ∧
        (s.ports.get p).receiver = .checkLow f.tag f.kind f.payload high := by
  unfold State.completedFrame at h
  split at h
  · rename_i hi
    exact .inl (hi.trans h)
  · split at h
    · rename_i tag kind taken high hr
      split at h
      · obtain ⟨rfl, rfl⟩ := Prod.mk.inj (Option.some.inj h)
        exact .inr ⟨_, high, rfl, hr⟩
      · cases h
    · cases h
  · cases h

/-- A well-formed request row of MOTION's KIND is a MOTION. -/
theorem motion_of_requestFrame {i : Instr} {p : Port} {f : Frame} (hw : i.wellFormed = true)
    (hi : requestFrame i = some (p, f)) (hk : RequestKind.ofCode f.kind = some .motion) :
    ∃ p tag payload, i = .motion p tag payload := by
  cases i <;> cases hi
  case motion => exact ⟨_, _, _, rfl⟩
  case unknownKind => simp [Instr.wellFormed, hk] at hw
  all_goals simp at hk

/-- A well-formed request row of RUN_CONTROL's KIND with the code of STOP or RESTART is that row. -/
theorem stop_or_restart_of_requestFrame {i : Instr} {p : Port} {f : Frame} (hw : i.wellFormed = true)
    (hi : requestFrame i = some (p, f)) (hk : RequestKind.ofCode f.kind = some .runControl)
    (hp : f.payload = [2] ∨ f.payload = [3]) :
    (∃ p tag rest, i = .stop p tag rest) ∨ ∃ p tag rest, i = .restart p tag rest := by
  cases i <;> cases hi
  case stop => exact .inl ⟨_, _, _, rfl⟩
  case restart => exact .inr ⟨_, _, _, rfl⟩
  case start => simp at hp
  case unknownKind => simp [Instr.wellFormed, hk] at hw
  all_goals simp at hk

/-- Settles O28: the owners' answers and the part's events leave the flags, but for the named ones. -/
theorem onlyTheNamedCommandsMoveTheFlag : Obligations.OnlyTheNamedCommandsMoveTheFlag := by
  intro i s t hw ht
  obtain ⟨p, f, v, hf, rfl⟩ | ⟨-, hstep⟩ | ⟨e, -, he, rfl⟩ := exec_cases ht
  · obtain ⟨-, hstep⟩ | ⟨k, -, -, hk, -, -, hserve⟩ := s.takeFrameReading_cases v p f
    · obtain ⟨-, -, -, hsteer, -, -, -, -, hsup, -⟩ := hstep.keeps
      rw [hsteer, hsup]
      exact ⟨fun h => absurd rfl h, fun h => absurd h (lt_irrefl _), fun h h' => absurd (h.symm.trans h') nofun⟩
    · have hcode : f.kind = k.code := (ofCode_eq_some_iff _ _).1 hk
      obtain ⟨htown, hslips⟩ := (s.taking p f).serve_flags v k p f.payload
      rw [hserve]
      refine ⟨fun h => ?_, fun h => absurd (hslips ▸ h) (lt_irrefl _), fun h h' => ?_⟩
      · obtain rfl : k = .motion := by
          by_contra hk'
          exact h (htown hk')
        obtain hi | ⟨char, high, rfl, hr⟩ := completedFrame_cases hf
        · exact .inl (motion_of_requestFrame hw hi hk)
        · rw [hcode] at hr
          exact .inr (.inr ⟨p, char, f.tag, f.payload, high, rfl, hr⟩)
      · obtain ⟨rfl, hp⟩ : k = .runControl ∧ (f.payload = [2] ∨ f.payload = [3]) := by
          by_contra hno
          exact absurd (((s.taking p f).serve_safeLatch v k p f.payload h hno).symm.trans h') nofun
        obtain hi | ⟨char, high, rfl, hr⟩ := completedFrame_cases hf
        · obtain hstop | hrestart := stop_or_restart_of_requestFrame hw hi hk hp
          · exact .inl hstop
          · exact .inr (.inl hrestart)
        · rw [hcode] at hr
          refine .inr (.inr (.inr ⟨p, char, f.tag, high, ?_⟩))
          rcases hp with hp | hp <;> rw [hp] at hr
          · exact ⟨2, rfl, hr, .inl rfl⟩
          · exact ⟨3, rfl, hr, .inr rfl⟩
  · obtain ⟨-, -, -, hsteer, -, -, -, -, hsup, -⟩ := hstep.keeps
    rw [hsteer, hsup]
    exact ⟨fun h => absurd rfl h, fun h => absurd h (lt_irrefl _), fun h h' => absurd (h.symm.trans h') nofun⟩
  · by_cases hc : i = .hardReset
    · exact ⟨fun _ => .inr (.inl hc), fun _ _ => hc, fun _ _ => .inr (.inr (.inl hc))⟩
    · have hkept := flagsKept_of_partEvent s hc he
      exact ⟨fun h => absurd hkept.town h, fun h hle => absurd h (hkept.slips hle).not_gt,
        fun h h' => absurd ((hkept.safeLatch h).symm.trans h') nofun⟩

/-! ## The encoder's events (R31 to R33) -/

theorem Steering.setLine_eq (x : Steering) (line : EncoderLine) (edge : Edge) :
    x.setLine line edge =
      { x with
        encA := if line = .a then decide (edge = .rising) else x.encA
        encB := if line = .b then decide (edge = .rising) else x.encB } := by
  cases line <;> cases edge <;> rfl

theorem Steering.otherLine_eq (x : Steering) (line : EncoderLine) :
    x.otherLine line = if line = .a then x.encB else x.encA := by
  cases line <;> rfl

/-- An edge while RESETN is high, with the decoder tested where the count changes. -/
theorem State.encoderEdge_of_high {s : State} (hr : s.resetn = true) (line : EncoderLine) (edge : Edge)
    {count : Int}
    (hcount : count =
      max 0 (min 65535 ((s.steering.count : Int) +
        edgeStep (encoderModeOf s.params.encoderMode) line edge
          (if line = .a then s.steering.encB else s.steering.encA)))) :
    s.encoderEdge line edge =
      { s with
        steering :=
          { s.steering with
            encA := if line = .a then decide (edge = .rising) else s.steering.encA
            encB := if line = .b then decide (edge = .rising) else s.steering.encB
            count := count.toNat
            decoder :=
              if s.steering.decoder = .referenced ∧ count ≠ s.steering.count ∧
                  s.params.encoderLimit < (count - 32768).natAbs then .faulted
              else s.steering.decoder } } := by
  have h0 : 0 ≤ count := hcount ▸ Int.le_max_left ..
  obtain ⟨n, rfl⟩ := Int.eq_ofNat_of_zero_le h0
  have hn : countAfter s.steering.count
      (edgeStep (encoderModeOf s.params.encoderMode) line edge (s.steering.otherLine line)) = n := by
    rw [countAfter, Steering.otherLine_eq, ← hcount, Int.toNat_natCast]
  have hlow : ¬s.resetn = false := by simp [hr]
  simp only [State.encoderEdge, if_neg hlow, hn, Steering.setLine_eq, limitTest_eq, Int.toNat_natCast,
    ne_eq, Int.natCast_inj]
  by_cases he : n = s.steering.count
  · simp [he]
  · simp only [he, not_false_eq_true, true_and]
    rfl

/-- Settles O29: the table of the modes, and the two events as equations. -/
theorem encoderEventsMoveTheCount : Obligations.EncoderEventsMoveTheCount := by
  refine ⟨by decide, fun s line edge hr => ?_, fun s hr => ⟨fun line edge count hcount => ?_, ?_⟩⟩
  · refine congrArg Host.Outcome.next ?_
    simp only [State.encoderEdge, if_pos hr, Steering.setLine_eq]
  · exact congrArg Host.Outcome.next (State.encoderEdge_of_high hr line edge hcount)
  · have hlow : ¬s.resetn = false := by simp [hr]
    refine congrArg Host.Outcome.next ?_
    simp only [State.encoderIndex, if_neg hlow]
    rfl

end Sys2Proof.Machine
end

section
/-! PROOF. What requests cannot do: those of the VIS and CHS ports to the pattern and the configuration, and those that are refused to anything (R151, R158, R159). -/

namespace Sys2Proof.Machine

/-! ## Requests of the VIS and the CHS port -/

/-- The blocks that the cab controller alone sets. -/
def SameBeam (s t : State) : Prop :=
  t.device = s.device ∧ t.params = s.params ∧ t.patterns = s.patterns ∧ t.beam = s.beam ∧
    t.engine = s.engine ∧ t.output = s.output

theorem sameBeam_refl (s : State) : SameBeam s s := ⟨rfl, rfl, rfl, rfl, rfl, rfl⟩

/-- A kind that is permitted off the CAB port leaves what the cab sets. -/
theorem State.serve_sameBeam (v : StatusOwner → State) {k : RequestKind} {p : Port} (payload : List Byte)
    (s : State) (hp : p ≠ .cab) (hk : k.permitted p = true) : SameBeam s (s.serve v k p payload).1 := by
  have hcab : (p == Port.cab) = false := by simpa using hp
  cases k with
  | shadeList => simp [SameBeam, State.serve]
  | motion => simp [SameBeam, State.serve]
  | statusClear =>
    obtain ⟨g, -, e⟩ := s.serveStatusClear_cases p payload
    simp [SameBeam, State.serve, e]
  | noticeControl => exact sameBeam_refl s
  | statusRead => exact sameBeam_refl s
  | recipeRead => exact sameBeam_refl s
  | configRead => exact sameBeam_refl s
  | noticeRead => exact sameBeam_refl s
  | shadeRead => simp [SameBeam, State.serve]
  | frameRead => simp [SameBeam, State.serve]
  | profileRead => simp [SameBeam, State.serve]
  | _ => simp [RequestKind.permitted, hcab] at hk

/-- Settles O59: a frame off the CAB port changes a link alone, or reaches an owner that leaves what the cab sets. -/
theorem theCabAloneSetsPatternAndConfiguration : Obligations.TheCabAloneSetsPatternAndConfiguration := by
  intro i p f s t hi hp ht
  rw [exec_of_requestFrame s hi] at ht
  cases ht
  obtain ⟨-, hstep⟩ | ⟨k, -, -, -, hk, -, hserve⟩ := s.takeFrameReading_cases (s.ownersRead p) p f
  · obtain ⟨hd, hpar, -, -, hpat, hbeam, heng, hout, -⟩ := hstep.keeps
    exact ⟨hd, hpar, hpat, hbeam, heng, hout⟩
  · rw [State.takeFrame, hserve]
    exact (s.taking p f).serve_sameBeam _ f.payload hp hk

/-! ## Refused requests (R159) -/

/-- An answer that carries a result of 0x10 or above is that result alone, on the state as it was. -/
def RefusesCleanly (s : State) (a : State × List Byte) : Prop :=
  ∀ c, a.2.head? = some c → 0x10 ≤ c.toNat → a = (s, [c])

theorem refusesCleanly_refusal (s : State) (c : Byte) : RefusesCleanly s (s, [c]) := by
  rintro _ ⟨⟩ -
  rfl

/-- An answer that accepts the request is no refusal. -/
theorem refusesCleanly_of_lt {s t : State} {c : Byte} {rest : List Byte} (h : c.toNat < 0x10) :
    RefusesCleanly s (t, c :: rest) := by
  rintro _ ⟨⟩ hc
  exact absurd h (Nat.not_lt.2 hc)

theorem ok_lt : Result.ok.code.toNat < 0x10 := by decide

theorem clampedOrOk_lt (b : Bool) : (if b = true then Result.okClamped else .ok).code.toNat < 0x10 := by
  cases b <;> decide

theorem partialOrOk_lt (b : Bool) : (if b = true then Result.okPartial else .ok).code.toNat < 0x10 := by
  cases b <;> decide

theorem partialOrClampedOrOk_lt (a b : Bool) :
    (if a = true then Result.okPartial else if b = true then .okClamped else .ok).code.toNat < 0x10 := by
  cases a <;> cases b <;> decide

theorem configResult_lt (codes : List Result) (raised : Bool) :
    (configResult codes raised).code.toNat < 0x10 := by
  unfold configResult
  split
  · decide
  · split <;> decide

/-- Every owner but the Shade Manager refuses a request without any effect. -/
theorem State.serve_refusesCleanly (v : StatusOwner → State) {k : RequestKind} (p : Port)
    (payload : List Byte) (s : State) (hk : k ≠ .shadeList) (hl : k.lenAllowed payload.length = true) :
    RefusesCleanly s (s.serve v k p payload) := by
  have format : RefusesCleanly s (s, [Result.refusedFormat.code]) := refusesCleanly_refusal s _
  have value : RefusesCleanly s (s, [Result.refusedValue.code]) := refusesCleanly_refusal s _
  cases k with
  | shadeList => exact absurd rfl hk
  | motion =>
    obtain ⟨a, b, c, d, e, rfl⟩ : ∃ a b c d e, [a, b, c, d, e] = payload := by
      simpa [RequestKind.lenAllowed, List.length_eq_succ_iff] using hl
    exact refusesCleanly_of_lt (clampedOrOk_lt _)
  | mode =>
    obtain ⟨a, b, c, rfl⟩ : ∃ a b c, [a, b, c] = payload := by
      simpa [RequestKind.lenAllowed, List.length_eq_succ_iff] using hl
    exact refusesCleanly_of_lt (partialOrClampedOrOk_lt _ _)
  | runControl =>
    show RefusesCleanly s (s.serveRunControl payload)
    unfold State.serveRunControl
    split
    · split
      · unfold State.serveStart
        split
        · exact refusesCleanly_of_lt ok_lt
        · exact refusesCleanly_refusal s _
      · unfold State.serveStop
        split
        · exact refusesCleanly_of_lt ok_lt
        · exact refusesCleanly_refusal s _
      · exact refusesCleanly_of_lt ok_lt
      · exact value
    · exact format
  | configWrite => exact refusesCleanly_of_lt (configResult_lt _ _)
  | lampControl =>
    show RefusesCleanly s (s.serveLampControl payload)
    unfold State.serveLampControl
    split
    · split
      · exact refusesCleanly_of_lt ok_lt
      · exact value
    · exact format
  | recipeWrite =>
    show RefusesCleanly s (s.serveRecipeWrite payload)
    simp only [State.serveRecipeWrite]
    split
    · exact value
    · split
      · exact refusesCleanly_refusal s _
      · exact refusesCleanly_of_lt (clampedOrOk_lt _)
  | profileOpen =>
    show RefusesCleanly s (s.serveProfileOpen payload)
    unfold State.serveProfileOpen
    split
    · split
      · exact refusesCleanly_refusal s _
      · exact refusesCleanly_of_lt (clampedOrOk_lt _)
    · exact format
  | profileData =>
    show RefusesCleanly s (s.serveProfileData payload)
    unfold State.serveProfileData
    split
    · exact refusesCleanly_refusal s _
    · exact refusesCleanly_of_lt (partialOrOk_lt _)
  | profileClose =>
    show RefusesCleanly s s.serveProfileClose
    unfold State.serveProfileClose
    split
    · exact refusesCleanly_refusal s _
    · exact refusesCleanly_of_lt ok_lt
  | statusRead => exact refusesCleanly_of_lt ok_lt
  | statusClear =>
    show RefusesCleanly s (s.serveStatusClear p payload)
    unfold State.serveStatusClear
    split
    · split
      · exact refusesCleanly_of_lt ok_lt
      · exact refusesCleanly_of_lt ok_lt
      · exact value
    · exact format
  | shadeRead =>
    show RefusesCleanly s (s.serveShadeRead payload)
    unfold State.serveShadeRead
    split
    · exact refusesCleanly_of_lt ok_lt
    · exact format
  | frameRead =>
    show RefusesCleanly s (s.serveFrameRead payload)
    unfold State.serveFrameRead
    split
    · split
      · exact refusesCleanly_of_lt ok_lt
      · exact value
    · exact format
  | profileRead =>
    show RefusesCleanly s (s.serveProfileRead payload)
    unfold State.serveProfileRead
    split
    · split
      · exact value
      · split
        · exact value
        · exact refusesCleanly_of_lt ok_lt
    · exact format
  | recipeRead => exact refusesCleanly_of_lt ok_lt
  | configRead => exact refusesCleanly_of_lt (partialOrOk_lt _)
  | noticeRead => exact refusesCleanly_of_lt ok_lt
  | noticeControl => exact refusesCleanly_of_lt (clampedOrOk_lt _)

/-- The dispatch checks refuse without any effect too. -/
theorem State.dispatch_refusesCleanly (v : StatusOwner → State) (p : Port) {f : Frame} (s : State)
    (hf : f.kind ≠ RequestKind.shadeList.code) : RefusesCleanly s (s.dispatch v p f) := by
  unfold State.dispatch
  split
  · exact refusesCleanly_refusal s _
  · rename_i k hk
    split
    · exact refusesCleanly_refusal s _
    · split
      · exact refusesCleanly_refusal s _
      · rename_i hl
        refine s.serve_refusesCleanly v p f.payload ?_ (by simpa using hl)
        rintro rfl
        exact hf ((ofCode_eq_some_iff _ _).1 hk)

/-- Settles O60: the answer of the dispatch is the reply's payload, and it refuses cleanly. -/
theorem aRefusedRequestChangesNothing : Obligations.ARefusedRequestChangesNothing := by
  intro i p f s t r code hi hs hf ht hr hcode hge
  rw [exec_of_requestFrame s hi] at ht
  cases ht
  have hclean := State.dispatch_refusesCleanly (s.ownersRead p) p (s.taking p f) hf
  have hplaced : (((s.takeFrame p f).ports.get p).replies) =
      (((s.taking p f).dispatch (s.ownersRead p) p f).1.ports.get p).replies ++
        [⟨f.tag, f.kind + 0x80, ((s.taking p f).dispatch (s.ownersRead p) p f).2⟩] := by
    rw [State.takeFrame_of_canTake f hs, State.onPort_ports, PerPort.get_set_self]
    rfl
  rw [hplaced] at hr
  obtain ⟨-, hlast⟩ := List.append_inj' hr rfl
  obtain rfl := List.head_eq_of_cons_eq hlast
  exact State.takeFrame_of_dispatch_same hs (hclean code hcode hge)

end Sys2Proof.Machine
end

section
/-! PROOF. The steering query in its steps (R34 to R44). -/

namespace Sys2Proof.Machine

/-! ## Step 1: plausibility (R42 to R44) -/

theorem runsAfter_eq (b : Bool) (x : Steering) :
    runsAfter b x =
      { x with
        disagreeRun := if b = true then min 255 (x.disagreeRun + 1) else 0
        agreeRun := if b = true then 0 else min 255 (x.agreeRun + 1) } := by
  cases b <;> rfl

theorem State.plausible_iff (s : State) :
    s.plausible = true ↔
      s.steering.latch.valid = true ∧ s.ports.chs.fresh = true ∧ s.params.encoderEnable = 1 ∧
        s.steering.decoder = .referenced := by
  simp [State.plausible, and_assoc]

theorem State.moveDisagree_eq (b : Bool) (s : State) :
    s.moveDisagree b =
      ({ s with
          steering := { s.steering with disagree := b, disagreeRun := 0, agreeRun := 0 }
          supervisor := { s.supervisor with recDisagree := b } }.recompute).marked
        Sticky.clear [.steer] := by
  rw [← State.recompute_marked, State.moveDisagree, State.notify_eq_marked]
  rfl

/-- The source and the freshness that step 1 leaves for the later steps. -/
theorem State.queryPlausibility_chs_fresh (s : State) :
    s.queryPlausibility.ports.chs.fresh = s.ports.chs.fresh := by
  refine fresh_of_links (s := s) ?_ .chs
  simp

theorem State.queryPlausibility_held_source (s : State) :
    s.queryPlausibility.steering.source = s.steering.source := by
  simp only [State.queryPlausibility]
  split
  · split
    · simp [State.moveDisagree]
    · split <;> simp [State.moveDisagree]
  · rfl

/-! ## Steps 2 to 4: source, target and hold (R38 to R41) -/

theorem clampSigned_ne_iff (raw : Int) : (clampSigned 64 raw ≠ raw) ↔ 64 < raw.natAbs := by
  unfold clampSigned
  omega

/-- The target of a source, read in any state with the same angles and gates. -/
theorem State.formTarget_eq {s : State} {source : Source} {encoder steer raw : Int} {gated : Bool}
    (hencoder : encoder = encoderSteer s.params.encoderScale s.steering.count)
    (hsteer : steer = if source = .chassis then s.steering.latch.steer else encoder)
    (hraw : raw = (steer * s.params.swivelGain).tdiv 1024) (hgated : gated = s.speedGated) :
    s.formTarget source =
      if gated = true ∨ source = .none then (0, false)
      else (max (-64) (min 64 raw), decide (64 < raw.natAbs)) := by
  have hr (h : source ≠ .none) : rawTarget s.params.swivelGain (s.steerOf source) = raw := by
    rw [hraw, hsteer, hencoder]
    cases source with
    | none => exact absurd rfl h
    | chassis => rfl
    | encoder => rfl
  rw [State.formTarget, ← hgated]
  by_cases h : gated = true ∨ source = .none
  · rw [if_pos h, if_pos h]
  · rw [if_neg h, if_neg h, hr (not_or.1 h).2]
    exact congrArg (Prod.mk _) (decide_eq_decide.2 (clampSigned_ne_iff raw))

/-- Settles O31: step 1 by its three outcomes, then each later step by its equation on what step 1 leaves. -/
theorem theSteeringQueryFollowsItsSteps : Obligations.TheSteeringQueryFollowsItsSteps := by
  intro s q compared differ enters leaves gated encoder steer raw disagreeRun agreeRun source hq hencoder
    hcompared hdiffer hdis hagree henters hleaves hsource hsteer hraw hgated
  subst hq
  have hplausible : s.plausible = compared := by
    rw [hcompared, Bool.eq_iff_iff, s.plausible_iff, decide_eq_true_iff]
  have hdiffers : s.sourcesDiffer = differ := by
    rw [hdiffer, hencoder]
    rfl
  have hruns : runsAfter s.sourcesDiffer s.steering =
      { s.steering with disagreeRun := disagreeRun, agreeRun := agreeRun } := by
    rw [hdiffers, runsAfter_eq, hdis, hagree]
  have hstep1 (hc : compared = true) :
      s.steeringQuery.afterStep1 =
        if enters = true then
          State.moveDisagree true
            { s with steering := { s.steering with disagreeRun := disagreeRun, agreeRun := agreeRun } }
        else if leaves = true then
          State.moveDisagree false
            { s with steering := { s.steering with disagreeRun := disagreeRun, agreeRun := agreeRun } }
        else { s with steering := { s.steering with disagreeRun := disagreeRun, agreeRun := agreeRun } } := by
    show s.queryPlausibility = _
    simp only [State.queryPlausibility, if_pos (hplausible.trans hc), hruns, henters, hleaves,
      decide_eq_true_eq]
  have hsrc : s.queryPlausibility.selectSource = source := by
    simp only [State.selectSource, State.queryPlausibility_keeps, State.queryPlausibility_steering,
      s.queryPlausibility_chs_fresh]
    exact hsource.symm
  refine ⟨fun hc => ?_, fun hc he hl => ?_, fun hc hmoved => ?_, ?_, ?_⟩
  · exact if_neg (by rw [hplausible, hc]; decide)
  · rw [hstep1 hc, if_neg (by simp [he]), if_neg (by simp [hl])]
  · rw [hstep1 hc]
    by_cases he : enters = true
    · rw [if_pos he, he]
      exact State.moveDisagree_eq true _
    · have hl : leaves = true := hmoved.resolve_left he
      rw [if_neg he, if_pos hl, Bool.eq_false_iff.2 he]
      exact State.moveDisagree_eq false _
  · show s.queryPlausibility.holdSource s.queryPlausibility.selectSource = _
    rw [hsrc, State.holdSource, s.queryPlausibility_held_source]
    rfl
  · show s.queryPlausibility.formTarget s.queryPlausibility.selectSource = _
    rw [hsrc]
    refine State.formTarget_eq (encoder := encoder) (steer := steer) ?_ ?_ ?_ ?_
    · simp only [State.queryPlausibility_keeps, State.queryPlausibility_steering]
      exact hencoder
    · simp only [State.queryPlausibility_steering]
      exact hsteer
    · simp only [State.queryPlausibility_keeps]
      exact hraw
    · simp only [State.speedGated, State.queryPlausibility_keeps, State.queryPlausibility_steering,
        s.queryPlausibility_chs_fresh]
      rw [hgated, Bool.decide_and, Bool.decide_or]
      simp

end Sys2Proof.Machine
end

section
/-! PROOF. Frame starts: one that begins a composition on what its owners answer, and one that is skipped (R66 to R71, R122, R176). -/

namespace Sys2Proof.Machine

/-! ## A frame start that is skipped (R68, R69, R122) -/

/-- The skipped frame start's own part: the repeat counters, before an overrun is reported. -/
def State.repeated (s : State) : State :=
  { s with
    engine :=
      { s.engine with
        timer := some s.params.framePeriod
        repeatCount := min 65535 (s.engine.repeatCount + 1)
        consecRepeats := min 255 (s.engine.consecRepeats + 1) } }

theorem State.frameTimerExpiry_of_flight {s : State} (ht : s.engine.timer.isSome = true)
    (hf : s.engine.flight.isSome = true) :
    s.frameTimerExpiry =
      if s.params.overrunLimit ≤ min 255 (s.engine.consecRepeats + 1) then
        (s.repeated.marked Sticky.clear [.repeated]).reportOverrun
      else s.repeated.marked Sticky.clear [.repeated] := by
  obtain ⟨x, hx⟩ := Option.isSome_iff_exists.1 hf
  rw [State.frameTimerExpiry, if_pos ht, State.frameStart_of_flight hx]
  simp only [State.skipFrame, State.notify_eq_marked]
  rfl

/-- An overrun report puts the level to SAFE (R118, R122). -/
theorem State.reportOverrun_marked (f : Sticky) (ns : List Notice) (s : State) :
    (s.marked f ns).reportOverrun =
      ({ s with
          supervisor := { s.supervisor with safeLatch := true }.atSafe s.tellExpiryNext }.marked f
        (ns ++ noticesToSafe s.supervisor.level)) := by
  have hsafe : ({ s.supervisor with safeLatch := true } : Supervisor).computed = .safe :=
    (Supervisor.computed_safe _).2 (.inr rfl)
  have hrec := State.recompute_of_safe (s := { s with supervisor := { s.supervisor with safeLatch := true } }) hsafe
  have hmark := State.recompute_marked f ns { s with supervisor := { s.supervisor with safeLatch := true } }
  refine hmark.trans ?_
  rw [hrec, State.marked_comm, State.marked_marked, Sticky.union_clear]
  rfl

/-- Settles O40: the skip counts and marks, and an overrun puts the level to SAFE. -/
theorem frameStartInFlightIsSkipped : Obligations.FrameStartInFlightIsSkipped := by
  intro s skipped n ht hf hn hskipped
  have hrep : skipped = s.repeated := by rw [hskipped, hn]; rfl
  have hexec : exec .frameStart s = .next s.frameTimerExpiry := rfl
  rw [hexec, State.frameTimerExpiry_of_flight ht hf, ← hn, ← hrep]
  refine ⟨fun hlt => ?_, fun hle => ?_⟩
  · rw [if_neg (Nat.not_le.2 hlt)]
  · rw [if_pos hle, State.reportOverrun_marked, hrep]
    rfl

/-! ## The owners asked at a frame start do not look at the engine -/

/-- The state with another Composition Engine. -/
def State.withEngine (x : Engine) (s : State) : State := { s with engine := x }

theorem State.recompute_withEngine (x : Engine) (s : State) :
    (s.withEngine x).recompute = s.recompute.withEngine x := by
  rw [State.recompute_eq, State.recompute_eq]
  rfl

theorem State.serveSnapshot_withEngine (x : Engine) (s : State) :
    (s.withEngine x).serveSnapshot = s.serveSnapshot.withEngine x := by
  rw [State.serveSnapshot_eq, State.serveSnapshot_eq]
  rfl

theorem State.takeVisReport_withEngine (x : Engine) (due : Option Bool) (place i : Nat) (s : State) :
    State.takeVisReport due place i (s.withEngine x) = (State.takeVisReport due place i s).withEngine x := by
  unfold State.takeVisReport
  split
  · split
    · exact State.recompute_withEngine x { s with supervisor := _ }
    · rfl
  · rfl

theorem State.moveDisagree_withEngine (x : Engine) (b : Bool) (s : State) :
    (s.withEngine x).moveDisagree b = (s.moveDisagree b).withEngine x := by
  have h := State.recompute_withEngine x
    { s with
      steering := { s.steering with disagree := b, disagreeRun := 0, agreeRun := 0 }
      supervisor := { s.supervisor with recDisagree := b } }
  rw [State.moveDisagree_eq, State.moveDisagree_eq]
  exact congrArg (State.marked Sticky.clear [.steer]) h

theorem State.queryPlausibility_withEngine (x : Engine) (s : State) :
    (s.withEngine x).queryPlausibility = s.queryPlausibility.withEngine x := by
  have hp : (s.withEngine x).plausible = s.plausible := rfl
  have hd : (s.withEngine x).sourcesDiffer = s.sourcesDiffer := rfl
  have hs : (s.withEngine x).steering = s.steering := rfl
  have hl : (s.withEngine x).params = s.params := rfl
  simp only [State.queryPlausibility, hp, hd, hs, hl]
  split
  · split
    · exact State.moveDisagree_withEngine x true { s with steering := runsAfter s.sourcesDiffer s.steering }
    · split
      · exact State.moveDisagree_withEngine x false { s with steering := runsAfter s.sourcesDiffer s.steering }
      · rfl
  · rfl

theorem State.holdSource_withEngine (x : Engine) (src : Source) (s : State) :
    (s.withEngine x).holdSource src = (s.holdSource src).withEngine x := by
  have hs : (s.withEngine x).steering = s.steering := rfl
  simp only [State.holdSource, hs]
  split
  · rfl
  · exact State.recompute_withEngine x
      { s with
        steering := { s.steering with source := src }
        supervisor := { s.supervisor with recSource := src } }

theorem State.visReportDue_withEngine (x : Engine) (s : State) :
    (s.withEngine x).visReportDue = s.visReportDue := by
  have hnext : (s.withEngine x).nextVisChange = s.nextVisChange :=
    State.nextVisChange_congr (s := s) rfl rfl rfl
  simp only [State.visReportDue, hnext]
  rfl

theorem State.askOwners_withEngine (x : Engine) (s : State) :
    (s.withEngine x).askOwners =
      { snapshot := s.askOwners.snapshot.withEngine x
        start := s.askOwners.start.withEngine x
        agreement := s.askOwners.agreement.withEngine x
        between := s.askOwners.between.withEngine x
        source := s.askOwners.source.withEngine x
        after := s.askOwners.after.withEngine x } := by
  have hplace (u : State) : (u.withEngine x).visReportPlace = u.visReportPlace := rfl
  have hselect (u : State) : (u.withEngine x).selectSource = u.selectSource := rfl
  simp only [State.askOwners, State.serveSnapshot_withEngine, State.visReportDue_withEngine, hplace, hselect,
    State.takeVisReport_withEngine, State.queryPlausibility_withEngine, State.holdSource_withEngine]

/-! ## The query does not look at the Supervisor -/

/-- The Steering Unit after step 1 follows from the Steering Unit, the parameters and the CHS freshness. -/
theorem State.queryPlausibility_steering_congr {s t : State} (hs : t.steering = s.steering)
    (hp : t.params = s.params) (hf : t.ports.chs.fresh = s.ports.chs.fresh) :
    t.queryPlausibility.steering = s.queryPlausibility.steering := by
  have hplausible : t.plausible = s.plausible := by simp only [State.plausible, hs, hp, hf]
  have hdiffer : t.sourcesDiffer = s.sourcesDiffer := by simp only [State.sourcesDiffer, hs, hp]
  simp only [State.queryPlausibility, hplausible, hdiffer, hs, hp]
  split
  · split
    · simp [State.moveDisagree]
    · split <;> simp [State.moveDisagree]
  · exact hs

theorem State.takeVisReport_chs_fresh (due : Option Bool) (place i : Nat) (s : State) :
    (State.takeVisReport due place i s).ports.chs.fresh = s.ports.chs.fresh := by
  refine fresh_of_links (s := s) ?_ .chs
  simp

/-- The source held after a query is the one that step 2 selects. -/
theorem State.steeringQuery_after_source (s : State) :
    s.steeringQuery.after.steering.source = s.queryPlausibility.selectSource := by
  show (s.queryPlausibility.holdSource s.queryPlausibility.selectSource).steering.source = _
  unfold State.holdSource
  split
  · exact ‹s.queryPlausibility.selectSource = _›.symm
  · simp

theorem State.selectSource_congr {s t : State} (hs : t.steering = s.steering) (hp : t.params = s.params)
    (hf : t.ports.chs.fresh = s.ports.chs.fresh) : t.selectSource = s.selectSource := by
  simp only [State.selectSource, hs, hp, hf]

/-- The source selected at a frame start is the one that the query selects on the snapshot, whatever report of a VIS change meets it. -/
theorem State.askOwners_selectSource (s : State) :
    s.askOwners.between.selectSource = s.serveSnapshot.steeringQuery.after.steering.source := by
  rw [State.steeringQuery_after_source]
  refine State.selectSource_congr ?_ ?_ ?_
  · simp only [State.askOwners, State.takeVisReport_keeps]
    exact State.queryPlausibility_steering_congr (by simp) (by simp)
      (State.takeVisReport_chs_fresh _ _ _ _)
  · simp [State.askOwners]
  · simp only [State.askOwners, State.takeVisReport_chs_fresh, State.queryPlausibility_chs_fresh]

/-! ## A composition begins (R67, R70, R71) -/

theorem PatternMemory.recipeProfiles_eq (m : PatternMemory) :
    m.recipeProfiles =
      Vector.ofFn fun i =>
        if ∃ l ∈ m.layers.toList, l.enabled = true ∧ l.slot = i.val then some (m.slotRows i.val)
        else none := by
  simp only [PatternMemory.recipeProfiles, PatternMemory.slotInUse_iff]

theorem Lamp.latch_eq :
    Lamp.latch = fun (l : Lamp) =>
      if l.enabled = true then
        { l.setShadowBank { l.shadowBank with placement := l.rowSwap } with shadow := .filling }
      else l := rfl

/-- What the owners' answers leave of the blocks that the latch reads. -/
theorem State.askOwners_after_keeps (s : State) :
    s.askOwners.after.params = s.params ∧ s.askOwners.after.beam = s.beam ∧
      s.askOwners.after.patterns = s.patterns ∧ s.askOwners.after.output = s.output ∧
      s.askOwners.after.engine = s.engine ∧ s.askOwners.after.shades = s.serveSnapshot.shades ∧
      s.askOwners.after.steering.town = s.steering.town := by
  simp [State.askOwners]

/-- A frame start in IDLE: the owners answer, and the engine latches what they hold. -/
theorem State.frameStart_idle {s : State} (h : s.engine.flight = none) :
    s.frameStart =
      { s.askOwners.after with
        engine :=
          { s.engine with
            timer := some s.params.framePeriod
            flight :=
              some
                (s.askOwners.after.latchInputs s.askOwners.snapshot.steeringQuery
                  (s.askOwners.level (Config.levelOrder s.choices))) }
        output := { s.output with lamps := s.output.lamps.map Lamp.latch }
        choices := s.choices + 1 } := by
  obtain ⟨-, -, -, hout, -, -, -⟩ := s.askOwners_after_keeps
  have hask := State.askOwners_withEngine { s.engine with timer := some s.params.framePeriod } s
  have hquery (x : Engine) (u : State) :
      (u.withEngine x).steeringQuery.target = u.steeringQuery.target ∧
        (u.withEngine x).steeringQuery.clip = u.steeringQuery.clip := by
    simp only [State.steeringQuery, State.queryPlausibility_withEngine]
    exact ⟨rfl, rfl⟩
  rw [State.frameStart_of_idle h]
  show State.beginComposition (s.withEngine _) = _
  simp only [State.beginComposition, hask, State.latchInputs, hquery, ← hout]
  rfl

/-- Settles O39: the model's own place and level are the free values, and its owners' answers the states between. -/
theorem frameStartBeginsAComposition : Obligations.FrameStartBeginsAComposition := by
  intro s s1 table traffic due ht hf htable htraffic hs1 hdue
  have htab : ageTable s.params.fadeStep s.shades.table = table := htable.symm
  have htraf : trafficOf table = traffic := by
    rw [htraffic, trafficOf]
    simp only [Bool.decide_and]
  have hsnap : s.serveSnapshot = s1 := by
    rw [hs1, State.serveSnapshot_eq, htab, htraf]
  have hdue' : s.serveSnapshot.visReportDue = due := by
    rw [State.serveSnapshot_visReportDue, hdue]
    rfl
  have hrecord : s.serveSnapshot.supervisor.recVisFresh = s.supervisor.recVisFresh := by simp
  have hfresh : s.serveSnapshot.ports.vis.fresh = s.ports.vis.fresh := by
    refine fresh_of_links (s := s) ?_ .vis
    simp
  refine ⟨s.serveSnapshot.visReportPlace, s.askOwners.level (Config.levelOrder s.choices), s.askOwners.start,
    s.askOwners.agreement, s.askOwners.between, s.askOwners.source, s.askOwners.after, fun hplace => ?_, ?_,
    fun report source hreport hsource => ?_, fun hnone => ?_, ?_, ?_⟩
  · by_contra hne
    rw [State.visReportPlace, hrecord, hfresh, if_neg hne] at hplace
    exact absurd (Nat.mod_lt _ (by decide : 0 < 3)) hplace.not_lt
  · unfold State.visReportPlace
    split
    · exact Nat.le_of_lt_succ (Nat.mod_lt _ (by decide))
    · exact (Nat.mod_lt _ (by decide : 0 < 3)).le
  · have hrep (i : Nat) (x : State) :
        report i x = State.takeVisReport s.serveSnapshot.visReportDue s.serveSnapshot.visReportPlace i x := by
      rw [hreport, hdue']
      cases due with
      | none => rfl
      | some fresh =>
        simp only [State.takeVisReport, eq_comm (a := i)]
        rfl
    have hsel : source = s.askOwners.between.selectSource := by
      rw [hsource, ← hsnap, State.askOwners_selectSource]
    simp only [hrep, ← hsnap, hsel]
    exact ⟨rfl, rfl, rfl, rfl, rfl⟩
  · rw [State.askOwners_of_not_due (hdue'.trans hnone), ← hsnap]
  · have hlevel := pickLevel_cases (Config.levelOrder s.choices) s.askOwners.snapshot.supervisor.level
      ([s.askOwners.start, s.askOwners.agreement, s.askOwners.between, s.askOwners.source, s.askOwners.after].map
        fun x => x.supervisor.level)
    rw [← hsnap]
    exact List.mem_cons.2 hlevel
  · obtain ⟨hpar, hbeam, hpat, hout, -, hshades, htown⟩ := s.askOwners_after_keeps
    have hexec : exec .frameStart s = .next s.frameStart := congrArg Host.Outcome.next (if_pos ht)
    have hst : s.serveSnapshot.shades.table = table ∧ s.serveSnapshot.shades.traffic = traffic := by
      rw [hsnap, hs1]
      exact ⟨rfl, rfl⟩
    rw [hexec, State.frameStart_idle hf]
    simp only [State.latchInputs, hpar, hbeam, hpat, hout, hshades, htown, hst, PatternMemory.recipeProfiles_eq,
      Lamp.latch_eq]
    rw [← hsnap]
    rfl

end Sys2Proof.Machine
end

section
/-! PROOF. The completion of a composition (R73, R82, R83, R85, R86), and the stages of a segment (R72 to R80). -/

namespace Sys2Proof.Machine

/-! ## Completion -/

theorem swivelAfter_eq (rate : Nat) (target swivel : Int) :
    swivelAfter rate target swivel =
      if (rate : Int) < target - swivel then swivel + rate
      else if target - swivel < -(rate : Int) then swivel - rate
      else target := by
  unfold swivelAfter clampSigned
  split
  · omega
  · split <;> omega

theorem State.limitedShare_of_not_composed {s : State} {x : Latched} {k : Side} (swivel : Int)
    (h : (x.lamps.get k).composed = false) : s.limitedShare x swivel k = 0 := if_pos h

theorem State.limitedShare_of_commits {s : State} {x : Latched} {k : Side} (swivel : Int)
    (h : (x.lamps.get k).commits = true) :
    s.limitedShare x swivel k =
      (x.lampSegments swivel k (s.engine.ramp.get k)).countP fun y => y.limited := by
  obtain ⟨hc, hd⟩ : (x.lamps.get k).composed = true ∧ (x.lamps.get k).discarded = false := by
    simpa [LatchedLamp.commits] using h
  simp [State.limitedShare, hc, hd]

/-- The completion of the composition in flight, as one change and the marks of its flags. -/
theorem State.completeComposition_of_flight {s : State} {x : Latched} (h : s.engine.flight = some x)
    {swivel : Int} {sat : Bool} {flags : Sticky}
    (hswivel : swivel = swivelAfter x.swivelRate x.target s.engine.swivel)
    (hsat : sat = (s.saturatedIn x swivel .left || s.saturatedIn x swivel .right))
    (hflags : flags = { Sticky.clear with addSat := sat, swivelClip := x.clip }) :
    s.completeComposition =
      { s with
        engine :=
          { s.engine with
            flight := none
            swivel := swivel
            ramp := { left := s.rampAfter x swivel .left, right := s.rampAfter x swivel .right }
            frameCount := (s.engine.frameCount + 1) % 65536
            consecRepeats := 0
            addSat := sat
            swivelClip := x.clip
            riseLimited := s.limitedShare x swivel .left + s.limitedShare x swivel .right }
        output :=
          { s.output with
            lamps := { left := s.lampAfter x swivel .left, right := s.lampAfter x swivel .right } }
        restartFlags := s.flagsOutlasting flags
        choices := s.choices + 1 }.marked
        flags [] := by
  subst hswivel hsat hflags
  simp only [State.completeComposition, h, State.raise_eq_marked]

/-- Settles O41: the completion as one change, with the model's shares and flags as the free values. -/
theorem completionCommitsTheFrame : Obligations.CompletionCommitsTheFrame := by
  intro s x swivel commits sat flags hf hflags hswivel hcommits hsat
  have hsw : swivel = swivelAfter x.swivelRate x.target s.engine.swivel :=
    hswivel.trans (swivelAfter_eq _ _ _).symm
  have hs : sat = (s.saturatedIn x swivel .left || s.saturatedIn x swivel .right) := by
    rw [hsat]
    simp [State.saturatedIn]
  have hc (k : Side) : (x.lamps.get k).commits = commits k := (hcommits k).symm
  have ht := State.completeComposition_of_flight hf hsw hs hflags
  refine ⟨s.limitedShare x swivel, s.flagsOutlasting flags, s.flagsOutlasting_cases flags, ?_,
    fun k => ⟨State.limitedShare_of_not_composed swivel, fun h => ?_, State.limitedShare_of_discarded⟩,
    s.completeComposition, rfl, fun k => ⟨?_, ?_⟩, ?_⟩
  · have hl := s.limitedShare_le x swivel .left
    have hr := s.limitedShare_le x swivel .right
    omega
  · exact State.limitedShare_of_commits swivel ((hc k).trans h)
  · rw [State.completeComposition_ramp hf, ← hsw, State.rampAfter, hc]
  · rw [State.completeComposition_lamps hf, ← hsw, ← hc]
    rfl
  · rw [ht]
    rfl

/-! ## The stages of a segment -/

theorem profilePosition_range {S : Int} {c : Nat} (hl : -64 ≤ S) (hu : S ≤ 64) (hc : c < 48) :
    (profilePosition S c : Int) = (16 + c) * 4 - S ∧ profilePosition S c ≤ 316 ∧
      profilePosition S c / 4 ≤ 79 ∧
      (profilePosition S c % 4 ≠ 0 → profilePosition S c / 4 + 1 ≤ 79) := by
  have h : (profilePosition S c : Int) = (16 + c) * 4 - S := by
    unfold profilePosition
    omega
  omega

theorem columnValue_of_lt {row : Vector Nat 80} {k : Nat} (h : k < 80) : columnValue row k = row[k] := by
  simp [columnValue, h]

theorem interpolated_at_column (row : Vector Nat 80) (k : Fin 80) : interpolated row (4 * k.val) = row[k] := by
  have hd : 4 * k.val / 4 = k.val := by omega
  have hm : 4 * k.val % 4 = 0 := by omega
  rw [interpolated, hd, hm, columnValue_of_lt k.isLt, if_pos rfl]
  show (row[k.val] * 4 + 0 + 2) / 4 = row[k.val]
  omega

theorem interpolated_between (row : Vector Nat 80) (k r : Nat) (h : k + 1 < 80) (h1 : 1 ≤ r) (h3 : r ≤ 3) :
    interpolated row (4 * k + r) = (row[k] * (4 - r) + row[k + 1] * r + 2) / 4 := by
  have hd : (4 * k + r) / 4 = k := by omega
  have hm : (4 * k + r) % 4 = r := by omega
  have hr : ¬r = 0 := by omega
  rw [interpolated, hd, hm, columnValue_of_lt (by omega), columnValue_of_lt h, if_neg hr]

theorem flagHolds_iff (tested wanted actual : Bool) :
    flagHolds tested wanted actual = true ↔ (tested = true → wanted = actual) := by
  cases tested <;> simp [flagHolds]

theorem Layer.counts_iff (l : Layer) (f : RoadFlags) :
    l.counts f = true ↔
      l.enabled = true ∧ (l.mask.traffic = true → l.value.traffic = f.traffic) ∧
        (l.mask.weather = true → l.value.weather = f.weather) ∧
        (l.mask.town = true → l.value.town = f.town) := by
  simp only [Layer.counts, Layer.holds, Bool.and_eq_true, flagHolds_iff, and_assoc]

theorem Base.combine_add (b : Base) (n : Nat) :
    b.combine .add n = if b.value + n ≤ 255 then ⟨b.value + n, b.saturated⟩ else ⟨255, true⟩ := by
  by_cases h : b.value + n ≤ 255
  · have hn : ¬255 < b.value + n := by omega
    simp [Base.combine, h, hn]
  · have hn : 255 < b.value + n := by omega
    simp [Base.combine, h, hn, Nat.min_eq_left hn.le]

/-- What one layer makes of the base (R75, R76). -/
def Latched.layerStep (x : Latched) (r : Row) (q : Nat) (b : Base) (l : Layer) : Base :=
  if l.counts x.flags = true then
    b.combine l.op (contribution l.weight (interpolated (x.copyRow l.slot r) q))
  else b

/-- The base after the first `i` layers. -/
def Latched.baseAfter (x : Latched) (r : Row) (q i : Nat) : Base :=
  (x.layers.toList.take i).foldl (x.layerStep r q) { value := 0, saturated := false }

theorem Latched.base_eq_baseAfter (x : Latched) (r : Row) (q : Nat) : x.base r q = x.baseAfter r q 8 := by
  have hall : x.layers.toList.take 8 = x.layers.toList := List.take_of_length_le (by simp)
  rw [Latched.baseAfter, hall]
  rfl

theorem Latched.baseAfter_succ (x : Latched) (r : Row) (q : Nat) (i : Fin 8) :
    x.baseAfter r q (i.val + 1) = x.layerStep r q (x.baseAfter r q i.val) x.layers[i] := by
  have hi : i.val < x.layers.toList.length := by simp
  rw [Latched.baseAfter, List.take_succ_eq_append_getElem hi, List.foldl_append]
  simp [Latched.baseAfter]

/-- The recipe copy holds the rows of each slot that an enabled layer names (R63). -/
theorem Latched.copyRow_of_profiles {x : Latched} {slot : Nat} {rows : Fin 4 → TwoRows 80} (r : Row)
    (hs : slot ≤ 3) (h : x.profiles[Fin.ofNat 4 slot] = some (rows (Fin.ofNat 4 slot))) :
    x.copyRow slot r = (rows (Fin.ofNat 4 slot)).row r := by
  have hlt : slot < 4 := by omega
  have hval : (Fin.ofNat 4 slot).val = slot := Nat.mod_eq_of_lt hlt
  have hget : x.profiles[slot]? = some (some (rows (Fin.ofNat 4 slot))) := by
    rw [Vector.getElem?_eq_getElem hlt, ← h]
    exact congrArg some (getElem_congr_idx hval.symm)
  rw [Latched.copyRow, hget]
  rfl

theorem entryResidual_eq (e : ShadeEntry) {c n : Nat} {a : Int} (ha : a = ((c : Int) - 24) * 4)
    (hn : (n : Int) = max 0 (min e.right (a + 4) - max e.left a)) :
    entryResidual e c = 255 - ((255 - e.veff) * n + 2) / 4 := by
  have hcov : coverage e c = n := by
    rw [coverage, columnLeft, ← ha, ← hn, Int.toNat_natCast]
  rw [entryResidual, hcov]

/-- A least of a start and a value per taken entry: a bound of all, and one of them. -/
theorem foldl_min_filter {α : Type} (take : α → Bool) (f : α → Nat) (l : List α) :
    ∀ n : Nat,
      let m := l.foldl (fun n e => if take e = true then min n (f e) else n) n
      m ≤ n ∧ (∀ e ∈ l.filter take, m ≤ f e) ∧ (m = n ∨ ∃ e ∈ l.filter take, m = f e) := by
  induction l with
  | nil => intro n; simp
  | cons a l ih =>
    intro n
    cases ha : take a with
    | false =>
      simpa [ha] using ih n
    | true =>
      obtain ⟨hle, hall, hex⟩ := ih (min n (f a))
      simp only [List.foldl_cons, ha, if_true, List.filter_cons_of_pos]
      refine ⟨hle.trans (Nat.min_le_left _ _), fun e he => ?_, ?_⟩
      · obtain rfl | he := List.mem_cons.1 he
        · exact hle.trans (Nat.min_le_right _ _)
        · exact hall e he
      · obtain hm | ⟨e, he, hm⟩ := hex
        · rcases Nat.le_total n (f a) with h | h
          · exact .inl (hm.trans (Nat.min_eq_left h))
          · exact .inr ⟨a, List.mem_cons_self, hm.trans (Nat.min_eq_right h)⟩
        · exact .inr ⟨e, List.mem_cons_of_mem _ he, hm⟩

/-- Whether an entry takes part in the shade of a lamp's row (R77). -/
theorem takesPart_iff (e : ShadeEntry) (k : Side) (r : Row) :
    (e.rows.includes r = true ∧ e.lamps.includes k = true) ↔
      (r = .upper ∨ e.rows = .both) ∧
        (e.lamps = .both ∨ e.lamps = if k = .left then .left else .right) := by
  cases e.rows <;> cases r <;> cases e.lamps <;> cases k <;>
    simp [ShadeRows.includes, ShadeLamps.includes]

theorem residual_least (snapshot part : List ShadeEntry) (k : Side) (r : Row) (c : Nat)
    (hpart : part =
      snapshot.filter (fun e =>
        decide ((r = .upper ∨ e.rows = .both) ∧
          (e.lamps = .both ∨ e.lamps = if k = .left then .left else .right)))) :
    residual snapshot k r c ≤ 255 ∧ (∀ e ∈ part, residual snapshot k r c ≤ entryResidual e c) ∧
      (residual snapshot k r c = 255 ∨ ∃ e ∈ part, residual snapshot k r c = entryResidual e c) := by
  have h := foldl_min_filter
    (fun e : ShadeEntry => decide ((r = .upper ∨ e.rows = .both) ∧
      (e.lamps = .both ∨ e.lamps = if k = .left then .left else .right)))
    (fun e => entryResidual e c) snapshot 255
  simp only [decide_eq_true_eq, ← takesPart_iff] at h
  simp only [← takesPart_iff] at hpart
  rw [hpart]
  exact h

theorem gated_iff (m : BeamMode) (l : Level) (r : Row) :
    gated m l r = true ↔
      m = .off ∨ (m = .low ∧ r = .upper) ∨ (m = .auto ∧ l = .basic ∧ r = .upper) := by
  cases m <;> cases l <;> cases r <;> simp [gated]

/-- Settles O42: one lemma for each stage, and the layers in order by the base after each. -/
theorem stagesScaleAndRampASegment : Obligations.StagesScaleAndRampASegment := by
  refine ⟨fun S c hl hu hc => profilePosition_range hl hu hc, interpolated_at_column,
    fun row k r h h1 h3 => interpolated_between row k r h h1 h3, fun _ _ => rfl, Layer.counts_iff,
    fun b n => ⟨rfl, rfl, b.combine_add n⟩, fun x r q rows hslots hprofiles => ?_,
    fun e c n a ha hn => entryResidual_eq e ha hn, fun x k r c base R part hpart hR => ?_, gated_iff,
    fun _ _ => ⟨rfl, rfl⟩, fun i hi => ?_, fun x S k r c u => ?_⟩
  · refine ⟨x.baseAfter r q, rfl, x.base_eq_baseAfter r q, fun i => ?_⟩
    rw [x.baseAfter_succ, Latched.layerStep]
    split
    · rename_i hcount
      have hen : x.layers[i].enabled = true := ((Layer.counts_iff _ _).1 hcount).1
      have hmem : x.layers[i] ∈ x.layers.toList := by simp
      have hslot := hslots _ hmem hen
      have hval : (Fin.ofNat 4 x.layers[i].slot).val = x.layers[i].slot := Nat.mod_eq_of_lt (by omega)
      rw [Latched.copyRow_of_profiles r hslot (hprofiles _ ⟨_, hmem, hen, hval.symm⟩)]
    · rfl
  · obtain ⟨hle, hall, hex⟩ := residual_least x.snapshot part k r c hpart
    rw [hR]
    exact ⟨hle, hall, hex, rfl⟩
  · unfold contribution trimmed widened
    omega
  · refine ⟨rfl, fun h => if_pos h, fun h => if_neg (Nat.not_le.2 h), ?_, rfl⟩
    simp [Latched.segment]

end Sys2Proof.Machine
end

section
/-! PROOF. FRAME_READ (R87), the PWM duty (R103, R104), the terminal count (R105 to R109, R113) and what each lamp shows (R110 to R112). -/

namespace Sys2Proof.Machine

/-! ## FRAME_READ (R87, R165) -/

theorem sideOfCode_of_lamp {lamp : Byte} (h : lamp = 1 ∨ lamp = 2) :
    sideOfCode lamp.toNat = some (if lamp = 1 then .left else .right) := by
  obtain rfl | rfl := h <;> rfl

theorem sideOfCode_of_other {lamp : Byte} (h1 : lamp ≠ 1) (h2 : lamp ≠ 2) : sideOfCode lamp.toNat = none := by
  have n1 : lamp.toNat ≠ 1 := fun h => h1 (BitVec.eq_of_toNat_eq h)
  have n2 : lamp.toNat ≠ 2 := fun h => h2 (BitVec.eq_of_toNat_eq h)
  unfold sideOfCode
  split
  · exact absurd ‹lamp.toNat = 1› n1
  · exact absurd ‹lamp.toNat = 2› n2
  · rfl

theorem State.serveFrameRead_of_bad_value {lamp row : Byte} (column count : Byte) (s : State)
    (h : (lamp ≠ 1 ∧ lamp ≠ 2) ∨ 1 < row.toNat) :
    s.serveFrameRead [lamp, row, column, count] = (s, [0x15]) := by
  obtain ⟨h1, h2⟩ | h := h
  · simp only [State.serveFrameRead, sideOfCode_of_other h1 h2]
    rfl
  · simp only [State.serveFrameRead, rowOfCode_of_gt h]
    cases sideOfCode lamp.toNat <;> rfl

theorem State.serveFrameRead_of_lamp {lamp row : Byte} (column count : Byte) (s : State)
    (hl : lamp = 1 ∨ lamp = 2) (hr : row.toNat ≤ 1) {k : Side} {r : Row} {values : List Nat}
    (hk : k = if lamp = 1 then .left else .right) (hrow : r = if row = 0 then .lower else .upper)
    (hv : values = (((s.engine.ramp.get k).row r).toList.drop column.toNat).take (min 16 count.toNat)) :
    s.serveFrameRead [lamp, row, column, count] =
      (s,
        [0x00] ++ wordBytes (BitVec.ofNat 16 s.engine.frameCount) ++
          [ BitVec.ofInt 8 s.engine.swivel
          , if s.engine.flight = none then 0x00 else 0x01
          , BitVec.ofNat 8 (flagBit s.engine.addSat + 2 * flagBit s.engine.swivelClip)
          , BitVec.ofNat 8 s.engine.riseLimited
          , lamp, row, column, BitVec.ofNat 8 values.length ] ++
          values.flatMap fun n => wordBytes (BitVec.ofNat 16 n)) := by
  have hflight : encode8 (flagBit s.engine.flight.isSome) = if s.engine.flight = none then 0x00 else 0x01 := by
    cases s.engine.flight <;> rfl
  have hrun : readRun ((s.engine.ramp.get k).row r) column.toNat count.toNat 16 = values := hv.symm
  simp only [State.serveFrameRead, sideOfCode_of_lamp hl, rowOfCode_of_le hr, ← hk, ← hrow, hrun, hflight,
    funext encode16_eq_wordBytes]
  rfl

/-- Settles O45: FRAME_READ reaches the Composition Engine on every port, whose answer changes no state. -/
theorem frameReadGivesTheLastFrame : Obligations.FrameReadGivesTheLastFrame := by
  intro p tag lamp row column count s hs
  refine ⟨fun h => ?_, fun k r values hl hr hk hrow hv => ?_⟩
  · exact exec_of_serve_same (k := .frameRead) (f := ⟨tag, _, [lamp, row, column, count]⟩) rfl rfl hs rfl rfl
      (State.serveFrameRead_of_bad_value column count _ h)
  · exact exec_of_serve_same (k := .frameRead) (f := ⟨tag, _, [lamp, row, column, count]⟩) rfl rfl hs rfl rfl
      (State.serveFrameRead_of_lamp column count _ hl hr hk hrow hv)

/-! ## The duty of a line (R103, R104) -/

theorem length_filter_range_eq (v N : Nat) :
    ((List.range N).filter fun n => decide (n = v)).length = if v < N then 1 else 0 := by
  induction N with
  | zero => rfl
  | succ N ih =>
    rw [List.range_succ, List.filter_append, List.length_append, ih]
    rcases Nat.lt_trichotomy v N with h | h | h
    · have : ¬N = v := by omega
      simp [h, this, Nat.lt_succ_of_lt h]
    · simp [h]
    · have h1 : ¬v < N := by omega
      have h2 : ¬v < N + 1 := by omega
      have h3 : ¬N = v := by omega
      simp [h1, h2, h3]

theorem length_filter_range_lt (k N : Nat) :
    ((List.range N).filter fun n => decide (n < k)).length = min k N := by
  induction N with
  | zero => simp
  | succ N ih =>
    rw [List.range_succ, List.filter_append, List.length_append, ih]
    by_cases h : N < k
    · simp [h]
      omega
    · simp [h]
      omega

theorem length_filter_range_le (a N : Nat) :
    ((List.range N).filter fun n => decide (a ≤ n)).length = N - a := by
  induction N with
  | zero => simp
  | succ N ih =>
    rw [List.range_succ, List.filter_append, List.length_append, ih]
    by_cases h : a ≤ N
    · simp [h]
      omega
    · simp [h]
      omega

/-- A count over the PWM cycle is a count over its rising half and one over its falling half. -/
theorem length_filter_pwm (q : Nat → Bool) :
    ((List.range 2046).filter fun n => q (pwmValue n)).length =
      ((List.range 1023).filter q).length + ((List.range 1023).filter fun n => q (1022 - n)).length := by
  have hsplit : List.range (1023 + 1023) = List.range 1023 ++ (List.range 1023).map (1023 + ·) :=
    List.range_add
  have hcycle : 2046 = 1023 + 1023 := rfl
  have hup : (List.range 1023).filter (fun n => q (pwmValue n)) = (List.range 1023).filter q := by
    refine List.filter_congr fun n hn => ?_
    rw [pwmValue, if_pos (List.mem_range.1 hn)]
  have hdown (n : Nat) : pwmValue (1023 + n) = 1022 - n := by
    rw [pwmValue, if_neg (by omega)]
    omega
  rw [hcycle, hsplit, List.filter_append, List.length_append, hup, List.filter_map, List.length_map]
  simp only [Function.comp_def, hdown]

/-- Settles O47: the counts over the two halves of the cycle. -/
theorem theDutyIsTwiceTheCompareValue : Obligations.TheDutyIsTwiceTheCompareValue := by
  refine ⟨fun v hv => ?_, fun k hk => ?_, fun _ _ _ _ _ => rfl⟩
  · have hdown : (List.range 1023).filter (fun n => decide (1022 - n = v)) =
        (List.range 1023).filter fun n => decide (n = 1022 - v) := by
      refine List.filter_congr fun n hn => decide_eq_decide.2 ?_
      have := List.mem_range.1 hn
      omega
    rw [length_filter_pwm fun n => decide (n = v), hdown, length_filter_range_eq, length_filter_range_eq,
      if_pos (by omega), if_pos (by omega)]
  · have hdown : (List.range 1023).filter (fun n => decide (1022 - n < k)) =
        (List.range 1023).filter fun n => decide (1023 - k ≤ n) := by
      refine List.filter_congr fun n hn => decide_eq_decide.2 ?_
      have := List.mem_range.1 hn
      omega
    have h := length_filter_pwm fun n => decide (n < k)
    rw [hdown, length_filter_range_lt, length_filter_range_le] at h
    refine h.trans ?_
    omega

/-! ## The terminal count, the flash and LOW_REQ (R105 to R109, R113) -/

/-- Settles O48: the three events by their definitions, the one-shot by its command and its state. -/
theorem terminalCountSwapsAndTakesTheFlash : Obligations.TerminalCountSwapsAndTakesTheFlash := by
  refine fun s => ⟨fun hr => congrArg Host.Outcome.next ?_, fun d hd => congrArg Host.Outcome.next ?_,
    fun edge => congrArg Host.Outcome.next ?_⟩
  · have hlow : ¬s.resetn = false := by simp [hr]
    rw [State.terminalCount, if_neg hlow]
    cases s.beam.flash <;> cases s.output.flash <;> rfl
  · rw [State.expireFlash, hd]
    rfl
  · cases edge <;> rfl

/-! ## What each lamp shows (R110 to R112) -/

theorem mapRow_mapRow (swap : Bool) (r : Row) : mapRow swap (mapRow swap r) = r := by
  cases swap <;> simp [mapRow]

theorem State.driveSource_of_not_run {s : State} {k : Side} (he : (s.output.lamps.get k).enabled = true)
    (hd : s.device ≠ .run) : s.driveSource k = s.output.limpOnRequest := by
  simp [State.driveSource, he, hd]

theorem State.driveSource_of_safe {s : State} {k : Side} (he : (s.output.lamps.get k).enabled = true)
    (hd : s.device = .run) (hl : s.supervisor.level = .safe) :
    s.driveSource k = s.output.fallbackSource (s.output.lamps.get k).fallback := by
  simp [State.driveSource, he, hd, hl]

theorem State.driveSource_of_normal {s : State} {k : Side} (he : (s.output.lamps.get k).enabled = true)
    (hd : s.device = .run) (hl : s.supervisor.level ≠ .safe) :
    s.driveSource k = if s.output.flash = .idle then .activeBank else .flash := by
  by_cases hf : s.output.flash = .idle <;> simp [State.driveSource, he, hd, hl, Output.flashShown, hf]

/-- Where no UPPER row may be lit, a lamp is dark, or shows the LIMP pattern or the retained row. -/
theorem State.driveSource_of_forbidden {s : State} (k : Side) (h : s.upperForbidden) :
    s.driveSource k = .dark ∨ s.driveSource k = .limpPattern ∨ s.driveSource k = .retained := by
  have hlimp : s.output.limpOnRequest = .dark ∨ s.output.limpOnRequest = .limpPattern := by
    unfold Output.limpOnRequest
    split
    · exact .inr rfl
    · exact .inl rfl
  by_cases he : (s.output.lamps.get k).enabled = true
  · by_cases hd : s.device = .run
    · rw [State.driveSource_of_safe he hd (h.resolve_left (absurd hd))]
      cases (s.output.lamps.get k).fallback with
      | retain => exact .inr (.inr rfl)
      | dark => exact hlimp.imp_right .inl
      | limp => exact .inr (.inl rfl)
    · rw [State.driveSource_of_not_run he hd]
      exact hlimp.imp_right .inl
  · exact .inl (by simp [State.driveSource, he])

/-- What a lamp shows while LOW_REQ alone lights it. -/
theorem State.driveCompare_limpOnRequest {s : State} {k : Side} {r : Row} {p n : Nat}
    (h : s.driveSource k = s.output.limpOnRequest)
    (hn : limpValue (mapRow (s.output.lamps.get k).rowSwap r) (mapColumn (s.output.lamps.get k).colReverse p) = n) :
    s.driveCompare k r p = if s.output.lowReq = true then n else 0 := by
  rw [State.driveCompare, h, ← hn]
  cases hl : s.output.lowReq <;> simp [Output.limpOnRequest, hl]

/-- Settles O46: the drive source of each case, and what it shows. -/
theorem noUpperRowIsLitOutsideNormalRunning : Obligations.NoUpperRowIsLitOutsideNormalRunning := by
  intro s k l limp retained hl hlimp hretained
  subst hl
  have hpattern (r : Row) (p : Nat) :
      limpValue (mapRow (s.output.lamps.get k).rowSwap r)
        (mapColumn (s.output.lamps.get k).colReverse p) = limp r p := by
    rw [hlimp r _ p _ rfl rfl]
    cases (s.output.lamps.get k).rowSwap <;> cases r <;> rfl
  have hretain (r : Row) (p : Nat) (h : s.driveSource k = .retained) : s.driveCompare k r p = retained r p := by
    simp only [State.driveCompare, h]
    rw [hretained]
    cases (s.output.lamps.get k).activeBank.placement <;> cases r <;> rfl
  refine ⟨fun h p => ?_, fun h r p => ?_, fun he r p _ => ⟨fun hd => ?_, fun hd hlevel => ?_, fun hd hlevel => ?_⟩⟩
  · obtain hsrc | hsrc | hsrc := State.driveSource_of_forbidden k h
    · simp [State.driveCompare, hsrc]
    · simp [State.driveCompare, hsrc, State.shownSwap, mapRow_mapRow, limpValue]
    · simp [State.driveCompare, hsrc, State.shownSwap, mapRow_mapRow]
  · simp [State.driveCompare, State.driveSource, h]
  · exact State.driveCompare_limpOnRequest (State.driveSource_of_not_run he hd) (hpattern r p)
  · have hsrc := State.driveSource_of_safe he hd hlevel
    cases hf : (s.output.lamps.get k).fallback with
    | retain => exact hretain r p (by rw [hsrc, hf]; rfl)
    | dark => exact State.driveCompare_limpOnRequest (by rw [hsrc, hf]; rfl) (hpattern r p)
    | limp =>
      rw [hf] at hsrc
      simp only [State.driveCompare, hsrc, Output.fallbackSource]
      exact hpattern r p
  · rw [State.driveCompare, State.driveSource_of_normal he hd hlevel]
    by_cases hf : s.output.flash = .idle <;> simp [hf]

end Sys2Proof.Machine
end

section
/-! PROOF. LAMP_CONTROL: the settings of the selected lamps, and the disable of one (R85, R114, R115). -/

namespace Sys2Proof.Machine

/-! ## One lamp -/

/-- A lamp after its settings are written. -/
def Lamp.written (x : LampSettings) (l : Lamp) : Lamp :=
  if x.enabled = true then l.withSettings x
  else if l.enabled = true then (l.withSettings x).darkened
  else (l.withSettings x).recordPlacement

/-- Whether the settings disable a lamp that was enabled. -/
def Lamp.drops (x : LampSettings) (l : Lamp) : Bool := l.enabled && !x.enabled

theorem State.writeLamp_eq (x : LampSettings) (k : Side) (s : State) :
    s.writeLamp x k =
      { s with
        output := { s.output with lamps := s.output.lamps.set k ((s.output.lamps.get k).written x) }
        engine := if (s.output.lamps.get k).drops x = true then s.engine.dropLamp k else s.engine } := by
  simp only [State.writeLamp, Lamp.written, Lamp.drops]
  by_cases hx : x.enabled = true
  · simp [hx, State.onLamp]
  · by_cases hl : (s.output.lamps.get k).enabled = true <;> simp [hx, hl, State.onLamp]

theorem State.writeLamp_onPort (x : LampSettings) (k : Side) (p : Port) (g : PortState → PortState) (s : State) :
    (s.onPort p g).writeLamp x k = (s.writeLamp x k).onPort p g := by
  rw [State.writeLamp_eq, State.writeLamp_eq]
  rfl

theorem State.writeLamps_onPort (x : LampSettings) (sel : ShadeLamps) (p : Port)
    (g : PortState → PortState) (s : State) :
    (s.onPort p g).writeLamps x sel = (s.writeLamps x sel).onPort p g := by
  cases sel <;> simp only [State.writeLamps, State.writeLamp_onPort]

/-! ## The lamps of a selector -/

/-- The engine with the parts of the dropped lamps discarded (R85, R115). -/
def Engine.dropLamps (drops : Side → Bool) (e : Engine) : Engine :=
  { e with
    ramp :=
      { left := if drops .left = true then TwoRows.zero 48 else e.ramp.left
        right := if drops .right = true then TwoRows.zero 48 else e.ramp.right }
    flight :=
      e.flight.map fun (x : Latched) =>
        { x with
          lamps :=
            { left := { x.lamps.left with discarded := x.lamps.left.discarded || drops .left }
              right := { x.lamps.right with discarded := x.lamps.right.discarded || drops .right } } } }

theorem Engine.dropLamps_none (e : Engine) : e.dropLamps (fun _ => false) = e := by
  obtain ⟨timer, flight, swivel, ramp, fc, rc, cr, a, sc, rl⟩ := e
  cases flight <;> simp [Engine.dropLamps]

/-- One lamp more is dropped, or none. -/
theorem Engine.dropLamps_step (d : Bool) (k : Side) (drops : Side → Bool) (e : Engine) :
    (if d = true then (e.dropLamps drops).dropLamp k else e.dropLamps drops) =
      e.dropLamps fun m => drops m || (decide (m = k) && d) := by
  cases d
  · simp
  · cases k <;> simp [Engine.dropLamp, Engine.dropLamps, PerSide.set, PerSide.get, Function.comp_def]

theorem Engine.dropLamp_of (d : Bool) (k : Side) (e : Engine) :
    (if d = true then e.dropLamp k else e) = e.dropLamps fun m => decide (m = k) && d := by
  have h := Engine.dropLamps_step d k (fun _ => false) e
  simpa only [Engine.dropLamps_none, Bool.false_or] using h

/-- The settings written for the selected lamps, in all blocks at once. -/
theorem State.writeLamps_eq (x : LampSettings) (sel : ShadeLamps) (s : State) :
    s.writeLamps x sel =
      { s with
        output :=
          { s.output with
            lamps :=
              { left :=
                  if sel.includes .left = true then (s.output.lamps.get .left).written x
                  else s.output.lamps.get .left
                right :=
                  if sel.includes .right = true then (s.output.lamps.get .right).written x
                  else s.output.lamps.get .right } }
        engine :=
          s.engine.dropLamps fun k => sel.includes k && (s.output.lamps.get k).drops x } := by
  have hleft (d : Side → Bool) :
      (fun k => decide (k = Side.left) && d .left) = fun k => ShadeLamps.left.includes k && d k :=
    funext fun k => by cases k <;> simp [ShadeLamps.includes]
  have hright (d : Side → Bool) :
      (fun k => decide (k = Side.right) && d .right) = fun k => ShadeLamps.right.includes k && d k :=
    funext fun k => by cases k <;> simp [ShadeLamps.includes]
  have hboth (d : Side → Bool) :
      (fun k => decide (k = Side.left) && d .left || decide (k = Side.right) && d .right) =
        fun k => ShadeLamps.both.includes k && d k :=
    funext fun k => by cases k <;> simp [ShadeLamps.includes]
  cases sel with
  | left =>
    rw [State.writeLamps, State.writeLamp_eq, Engine.dropLamp_of,
      hleft fun k => (s.output.lamps.get k).drops x]
    rfl
  | right =>
    rw [State.writeLamps, State.writeLamp_eq, Engine.dropLamp_of,
      hright fun k => (s.output.lamps.get k).drops x]
    rfl
  | both =>
    rw [State.writeLamps, State.writeLamp_eq, State.writeLamp_eq, Engine.dropLamp_of]
    simp only [Engine.dropLamps_step]
    rw [← hboth fun k => (s.output.lamps.get k).drops x]
    rfl

/-! ## The request -/

theorem lampsOfCode_of_bad {sel : Byte} (h : sel = 0 ∨ 3 < sel.toNat) : lampsOfCode sel.toNat = none := by
  unfold lampsOfCode
  split
  · bv_omega
  · bv_omega
  · bv_omega
  · rfl

theorem fallbackOfCode_of_gt {fb : Byte} (h : 2 < fb.toNat) : fallbackOfCode fb.toNat = none := by
  unfold fallbackOfCode
  split
  · bv_omega
  · bv_omega
  · bv_omega
  · rfl

theorem fallbackOfCode_of_le {fb : Byte} (h : fb.toNat ≤ 2) :
    fallbackOfCode fb.toNat = some (if fb = 0 then .retain else if fb = 1 then .dark else .limp) := by
  obtain rfl | rfl | rfl : fb = 0 ∨ fb = 1 ∨ fb = 2 := by bv_omega
  · rfl
  · rfl
  · rfl

/-- A selector code names a choice of lamps, each by its own code and both by 3 (R157). -/
theorem lampsOfCode_of_range {sel : Byte} (h1 : 1 ≤ sel.toNat) (h3 : sel.toNat ≤ 3) :
    ∃ lamps, lampsOfCode sel.toNat = some lamps ∧
      ∀ k, lamps.includes k = decide (sel = 3 ∨ sel = (if k = .left then 1 else 2)) := by
  obtain rfl | rfl | rfl : sel = 1 ∨ sel = 2 ∨ sel = 3 := by bv_omega
  · exact ⟨.left, rfl, fun k => by cases k <;> rfl⟩
  · exact ⟨.right, rfl, fun k => by cases k <;> rfl⟩
  · exact ⟨.both, rfl, fun k => by cases k <;> rfl⟩

theorem encodeLamp_eq (l : Lamp) :
    encodeLamp l =
      [ BitVec.ofNat 8 (flagBit l.enabled + 2 * flagBit l.colReverse + 4 * flagBit l.rowSwap)
      , BitVec.ofNat 8 (fallbackCode l.fallback)
      , if l.active = BankId.a then 0x00 else 0x01
      , BitVec.ofNat 8 (shadowCode l.shadow) ] := by
  have hb : encode8 (bankCode l.active) = if l.active = BankId.a then 0x00 else 0x01 := by
    cases l.active <;> rfl
  rw [encodeLamp, hb]
  rfl

/-- A selector or a fallback that names nothing refuses the request whole. -/
theorem State.serveLampControl_of_bad_value {sel fb : Byte} (settings : Byte) (s : State)
    (h : sel = 0 ∨ 3 < sel.toNat ∨ 2 < fb.toNat) : s.serveLampControl [sel, settings, fb] = (s, [0x15]) := by
  rw [← or_assoc] at h
  obtain h | h := h
  · simp only [State.serveLampControl, lampsOfCode_of_bad h]
    rfl
  · simp only [State.serveLampControl, fallbackOfCode_of_gt h]
    cases lampsOfCode sel.toNat <;> rfl

/-- The settings of a LAMP_CONTROL that its payload carries. -/
def lampSettings (settings : Byte) (fallback : Fallback) : LampSettings :=
  { enabled := settings.getLsbD 0
    fallback := fallback
    colReverse := settings.getLsbD 1
    rowSwap := settings.getLsbD 2 }

theorem State.serveLampControl_of_lamps {sel fb : Byte} {choice : ShadeLamps} {fallback : Fallback}
    (settings : Byte) (s : State) (hc : lampsOfCode sel.toNat = some choice)
    (hf : fallbackOfCode fb.toNat = some fallback) :
    s.serveLampControl [sel, settings, fb] =
      (s.writeLamps (lampSettings settings fallback) choice,
        0x00 ::
          [(s.writeLamps (lampSettings settings fallback) choice).output.lamps.left,
            (s.writeLamps (lampSettings settings fallback) choice).output.lamps.right].flatMap encodeLamp) := by
  simp only [State.serveLampControl, hc, hf, bitAt_eq_getLsbD]
  rfl

theorem Lamp.written_eq (settings : Byte) (fallback : Fallback) {l w : Lamp}
    (hw : w =
      { l with
        enabled := settings.getLsbD 0
        fallback := fallback
        colReverse := settings.getLsbD 1
        rowSwap := settings.getLsbD 2 }) :
    l.written (lampSettings settings fallback) =
      if (l.enabled && !settings.getLsbD 0) = true then
        { w with
          bankA := { values := TwoRows.zero 48, placement := w.rowSwap }
          bankB := { values := TwoRows.zero 48, placement := w.rowSwap }
          shadow := .empty }
      else if settings.getLsbD 0 = true then w
      else
        { w with
          bankA := { w.bankA with placement := w.rowSwap }
          bankB := { w.bankB with placement := w.rowSwap } } := by
  have hs : l.withSettings (lampSettings settings fallback) = w := hw.symm
  have he : (lampSettings settings fallback).enabled = settings.getLsbD 0 := rfl
  simp only [Lamp.written, hs, he]
  generalize settings.getLsbD 0 = on
  cases on <;> cases l.enabled <;> rfl

/-- Settles O49: the settings written for the selected lamps at once, and the reply read off the lamps after. -/
theorem lampControlWritesTheSettings : Obligations.LampControlWritesTheSettings := by
  intro tag sel settings fb s fallback chosen drops lamps hs
  refine ⟨fun h => ?_, fun h1 h3 hfb hfallback hchosen hdrops hlamps => ?_⟩
  · exact exec_of_serve_same (k := .lampControl) (f := ⟨tag, _, [sel, settings, fb]⟩) rfl rfl hs rfl rfl
      (State.serveLampControl_of_bad_value settings _ h)
  · obtain ⟨choice, hchoice, hincludes⟩ := lampsOfCode_of_range h1 h3
    have hf : fallbackOfCode fb.toNat = some fallback := hfallback ▸ fallbackOfCode_of_le hfb
    have hinc (k : Side) : choice.includes k = chosen k := (hincludes k).trans (hchosen k).symm
    have hd : (fun k => choice.includes k && (s.output.lamps.get k).drops (lampSettings settings fallback)) =
        drops := by
      funext k
      rw [hdrops, hinc, Bool.and_assoc]
      rfl
    have hl (k : Side) :
        (if choice.includes k = true then (s.output.lamps.get k).written (lampSettings settings fallback)
          else s.output.lamps.get k) = lamps.get k := by
      rw [hlamps k _ rfl, Lamp.written_eq settings fallback rfl, hinc, hdrops]
      cases chosen k <;> simp
    have hw := s.writeLamps_eq (lampSettings settings fallback) choice
    rw [hd, hl .left, hl .right] at hw
    refine exec_of_serve (k := .lampControl) (f := ⟨tag, _, [sel, settings, fb]⟩) rfl rfl hs rfl rfl ?_
    refine (State.serveLampControl_of_lamps settings _ hchoice hf).trans ?_
    rw [State.taking, State.writeLamps_onPort, hw, funext encodeLamp_eq]
    rfl

end Sys2Proof.Machine
end

section
/-! PROOF. The Clock Monitor's windows (R124, R125) and the tell-tale (R129 to R131). -/

namespace Sys2Proof.Machine

/-! ## The Clock Monitor -/

theorem ClockMonitor.closeWindow_eq {c : ClockMonitor} {st : ClockState} {run : Nat}
    (h : clockAfter c.state c.goodRun (c.refCount == 8) = (st, run)) :
    c.closeWindow = { refCount := 0, internalCount := 0, state := st, goodRun := run } := by
  rw [ClockMonitor.closeWindow, h]

theorem clockAfter_bad (st : ClockState) (run : Nat) : clockAfter st run false = (.limp, 0) := by
  cases st <;> rfl

/-- Settles O51: an edge and a close by their definitions, the close with the monitor's table. -/
theorem theClockMonitorMovesByItsWindows : Obligations.TheClockMonitorMovesByItsWindows := by
  intro s closed st run hr
  have hlow : ¬s.resetn = false := by simp [hr]
  refine ⟨congrArg Host.Outcome.next (if_neg hlow), fun htable hclosed => congrArg Host.Outcome.next ?_⟩
  have hafter : clockAfter s.supervisor.clock.state s.supervisor.clock.goodRun
      (s.supervisor.clock.refCount == 8) = (st, run) := by
    rw [htable]
    by_cases h8 : s.supervisor.clock.refCount = 8
    · rw [if_neg (not_not.2 h8), h8]
      cases s.supervisor.clock.state <;> rfl
    · rw [if_pos h8, beq_false_of_ne h8, clockAfter_bad]
  simp only [State.closeWindow, if_neg hlow, ClockMonitor.closeWindow_eq hafter, ← hclosed]
  split
  · rfl
  · rw [State.notify_eq_marked, State.recompute_marked]

/-! ## The tell-tale -/

/-- A change to a blink that is not being shown begins it (R130). -/
theorem TellDriver.request_of_blink {t : TellDriver} {x : TellPattern} (next : Bool) (hb : x.blinks = true)
    (hx : x ≠ t.requested) (hno : ¬(t.requested = .off ∧ t.shown = x)) :
    t.request next x =
      { requested := x, shown := x, phaseOn := true, firstOn := true, timer := blinkHalf x
        replaced := next && (t.replaced || t.shown.blinks) } := by
  have hoff : x ≠ .off := by
    rintro rfl
    cases hb
  have hheld : ¬(x = .off ∧ t.shown.blinks = true ∧ t.firstOn = true) := fun h => hoff h.1
  rw [TellDriver.request, if_neg hx, if_neg hheld, if_neg hno]
  simp [TellDriver.show, hoff, hb]

/-- A blink in its first phase: a change to OFF is held, one back ends the hold, one to STEADY is followed; at its end the phase changes (R130). -/
theorem TellDriver.first_phase {t : TellDriver} {x : TellPattern} {mark : Bool} (hb : x.blinks = true)
    (ht : t =
      { requested := x, shown := x, phaseOn := true, firstOn := true, timer := blinkHalf x, replaced := mark })
    (later last : Bool) :
    t.lit = true ∧ (t.request later .off).lit = true ∧ (t.request later .off).request last x = t ∧
      (t.request later .off).expire.lit = false ∧
      ((t.request later .off).request last .steady).shown = .steady ∧ t.expire.lit = false ∧
      (t.expire.request later .off).lit = false := by
  subst ht
  cases x with
  | off => cases hb
  | steady => cases hb
  | slow => exact ⟨rfl, rfl, rfl, rfl, rfl, rfl, rfl⟩
  | fast => exact ⟨rfl, rfl, rfl, rfl, rfl, rfl, rfl⟩

theorem TellDriver.expire_of_not_blinks {t : TellDriver} (h : t.shown.blinks = false) : t.expire = t :=
  if_neg (by simp [h])

theorem TellDriver.expire_of_off {t : TellDriver} (hb : t.shown.blinks = true) (h : t.requested = .off) :
    t.expire =
      { requested := .off, shown := .off, phaseOn := false, firstOn := false, timer := none
        replaced := false } := by
  rw [TellDriver.expire, if_pos hb, if_pos h, TellDriver.show, h]
  rfl

theorem TellDriver.expire_of_shown {t : TellDriver} (hb : t.shown.blinks = true) (h : t.requested = t.shown) :
    t.expire = { t with phaseOn := !t.phaseOn, firstOn := false, timer := blinkHalf t.shown } := by
  have hoff : ¬t.requested = .off := fun ho => by
    rw [← h, ho] at hb
    cases hb
  rw [TellDriver.expire, if_pos hb, if_neg hoff]

/-- An expiry of a replaced blink has no further effect; any other is one of the shown pattern (R131). -/
theorem State.expireTellPhase_cases (s : State) :
    (s.supervisor.tell.replaced = true ∧
      s.expireTellPhase =
        { s with
          supervisor := { s.supervisor with tell := { s.supervisor.tell with replaced := false } }
          choices := s.choices + 1 }) ∨
      s.expireTellPhase =
        { s with
          supervisor := { s.supervisor with tell := { s.supervisor.tell.expire with replaced := false } }
          choices := if s.supervisor.tell.replaced = true then s.choices + 1 else s.choices } := by
  by_cases hr : s.supervisor.tell.replaced = true
  · by_cases hc : Config.expiryOfReplaced s.choices = true
    · exact .inl ⟨hr, by simp [State.expireTellPhase, hr, hc]⟩
    · exact .inr (by simp [State.expireTellPhase, hr, hc])
  · have hkeep : { s.supervisor.tell.expire with replaced := false } = s.supervisor.tell.expire := by
      have hf : s.supervisor.tell.expire.replaced = false := by
        unfold TellDriver.expire
        split
        · split
          · rfl
          · simpa using hr
        · simpa using hr
      rw [← hf]
    exact .inr (by simp [State.expireTellPhase, hr, hkeep])

/-- Settles O52: the begin of a blink, its first phase, the pattern that follows the level, and an expiry by its cases. -/
theorem theTellTaleBlinksAtLeastOnce : Obligations.TheTellTaleBlinksAtLeastOnce := by
  refine ⟨fun t x next later last hb hx hno => ?_, ⟨rfl, rfl⟩, fun s => ?_, fun s dismissed used hd hu =>
    ⟨fun hb hr => ?_, fun hb => ?_⟩⟩
  · have hbegun := TellDriver.request_of_blink next hb hx hno
    obtain ⟨hlit, hheld, hback, hend, hsteady, hphase, hafter⟩ := TellDriver.first_phase hb hbegun later last
    exact ⟨hlit, by rw [hbegun], by rw [hbegun], hheld, hback, hend, hsteady, hphase, hafter⟩
  · rw [State.recompute_eq]
    show (Supervisor.recomputed _ _).tell = _
    unfold Supervisor.recomputed
    split <;> rfl
  · refine congrArg Host.Outcome.next ?_
    obtain ⟨-, e⟩ | e := s.expireTellPhase_cases
    · rw [hd]
      exact e
    · rw [TellDriver.expire_of_not_blinks hb, if_pos hr] at e
      rw [hd]
      exact e
  · obtain ⟨hr, e⟩ | e := s.expireTellPhase_cases
    · exact .inl ⟨hr, congrArg Host.Outcome.next (by rw [hd]; exact e)⟩
    · rw [← hu] at e
      refine .inr ⟨fun hreq => congrArg Host.Outcome.next ?_, fun hreq => congrArg Host.Outcome.next ?_⟩
      · rw [TellDriver.expire_of_shown hb hreq] at e
        exact e
      · rw [TellDriver.expire_of_off hb hreq] at e
        exact e

end Sys2Proof.Machine
end

section
/-! PROOF. STATUS_READ (R142, R164): what it finds of the command that comes with it, and its 36 characters. -/

namespace Sys2Proof.Machine

/-! ## What a STATUS_READ within the next command makes no difference to -/

/-- The same state but for the replies that wait on the ports. -/
def SameButReplies (a b : State) : Prop :=
  ∃ ports : PerPort PortState, b = { a with ports := ports } ∧
    ∀ q, { ports.get q with replies := [] } = { a.ports.get q with replies := [] }

theorem sameButReplies_refl (a : State) : SameButReplies a a := ⟨a.ports, rfl, fun _ => rfl⟩

/-- The items that a STATUS_READ reads are the same. -/
theorem SameButReplies.items {a b : State} (h : SameButReplies a b) :
    b.device = a.device ∧ b.supervisor = a.supervisor ∧ b.beam = a.beam ∧ b.shades = a.shades ∧
      b.steering = a.steering ∧ b.engine = a.engine ∧ b.patterns = a.patterns ∧
      b.freshnessByte = a.freshnessByte ∧
      ∀ p, (b.ports.get p).sticky = (a.ports.get p).sticky ∧
        (b.ports.get p).counterBytes = (a.ports.get p).counterBytes := by
  obtain ⟨ports, rfl, hq⟩ := h
  have hfresh (q : Port) : (ports.get q).fresh = (a.ports.get q).fresh := (congrArg PortState.fresh (hq q) :)
  refine ⟨rfl, rfl, rfl, rfl, rfl, rfl, rfl, ?_, fun p => ⟨?_, ?_⟩⟩
  · have hv := hfresh .vis
    have hc := hfresh .chs
    have hb := hfresh .cab
    simp only [PerPort.get] at hv hc hb
    simp only [State.freshnessByte, hv, hc, hb]
  · exact (congrArg PortState.sticky (hq p) :)
  · exact (congrArg PortState.counterBytes (hq p) :)

theorem sameButReplies_placeReply (p : Port) (f : Frame) (r q : List Byte) (s : State) :
    SameButReplies (s.onPort p (PortState.placeReply f r)) (s.onPort p (PortState.placeReply f q)) := by
  refine ⟨_, rfl, fun m => ?_⟩
  by_cases hm : m = p
  · subst hm
    simp [PortState.placeReply]
  · simp [PerPort.get_set_of_ne _ _ hm]

/-- An owner does the same whatever a STATUS_READ finds. -/
theorem State.serve_fst_reads_nothing (v w : StatusOwner → State) (k : RequestKind) (p : Port)
    (payload : List Byte) (s : State) : (s.serve v k p payload).1 = (s.serve w k p payload).1 := by
  cases k <;> rfl

theorem State.dispatch_fst_reads_nothing (v w : StatusOwner → State) (p : Port) (f : Frame) (s : State) :
    (s.dispatch v p f).1 = (s.dispatch w p f).1 := by
  unfold State.dispatch
  split
  · rfl
  · split
    · rfl
    · split
      · rfl
      · exact s.serve_fst_reads_nothing v w _ p f.payload

theorem sameButReplies_takeFrameReading (v w : StatusOwner → State) (p : Port) (f : Frame) (s : State) :
    SameButReplies (s.takeFrameReading v p f) (s.takeFrameReading w p f) := by
  simp only [State.takeFrameReading]
  split
  · exact sameButReplies_refl s
  · split
    · exact sameButReplies_refl _
    · rw [State.dispatch_fst_reads_nothing v w]
      exact sameButReplies_placeReply p f _ _ _

theorem sameButReplies_assemble (v w : StatusOwner → State) (p : Port) (c : Byte) (s : State) :
    SameButReplies (s.assemble v p c) (s.assemble w p c) := by
  unfold State.assemble
  split
  case h_7 =>
    split
    · exact sameButReplies_takeFrameReading v w p _ s
    · exact sameButReplies_refl _
  all_goals exact sameButReplies_refl _

theorem sameButReplies_takeCharacterReading (v w : StatusOwner → State) (p : Port) (c : Byte) (s : State) :
    SameButReplies (s.takeCharacterReading v p c) (s.takeCharacterReading w p c) := by
  simp only [State.takeCharacterReading]
  split
  · exact sameButReplies_refl s
  · split
    · split
      · exact sameButReplies_assemble v w p c _
      · exact sameButReplies_refl _
    · exact sameButReplies_assemble v w p c s

/-- What a STATUS_READ may find of a command is that command's meaning, but for the text of a reply. -/
theorem exec_sameButReplies_preview (c : Instr) (s : State) :
    ∃ t, exec c s = .next t ∧ SameButReplies (s.preview c) t := by
  cases hf : requestFrame c with
  | some x =>
    obtain ⟨p, f⟩ := x
    refine ⟨_, exec_of_requestFrame s hf, ?_⟩
    simp only [State.preview, hf]
    exact sameButReplies_takeFrameReading _ _ p f s
  | none =>
    cases c <;> simp only [requestFrame, reduceCtorEq] at hf
    case characterReceived p char =>
      exact ⟨_, rfl, sameButReplies_takeCharacterReading _ _ p char s⟩
    all_goals exact ⟨_, rfl, sameButReplies_refl _⟩

/-- A command that comes with a request is neither of its port nor a hard reset. -/
theorem comesWithRequest_cases {p : Port} {c : Instr} (h : comesWithRequest p c = true) :
    c ≠ .hardReset ∧ (∀ f, requestFrame c ≠ some (p, f)) ∧ ∀ char, c ≠ .characterReceived p char := by
  refine ⟨?_, fun f hf => ?_, ?_⟩
  · rintro rfl
    cases h
  · simp [comesWithRequest, hf] at h
  · rintro char rfl
    simp [comesWithRequest, requestFrame] at h

/-- Each owner is read as it stands, or as the next command leaves it. -/
theorem ownersRead_of_exec (p : Port) (s : State) (o : StatusOwner) :
    ∃ t, SameButReplies (s.ownersRead p o) t ∧
      (t = s.completing p ∨
        ∃ c rest, s.pending = c :: rest ∧ comesWithRequest p c = true ∧
          exec c { s.completing p with pending := rest, choices := s.choices + 1 } = .next t) := by
  obtain e | ⟨c, rest, hp, hc, e⟩ := s.ownersRead_cases p o
  · exact ⟨_, sameButReplies_refl _, .inl e⟩
  · obtain ⟨t, ht, hsame⟩ :=
      exec_sameButReplies_preview c { s.completing p with pending := rest, choices := s.choices + 1 }
    exact ⟨t, e ▸ hsame, .inr ⟨c, rest, hp, hc, ht⟩⟩

/-! ## The characters of the reply (R164) -/

theorem statusPayload_congr {v w : StatusOwner → State} (p : Port) (h : ∀ o, SameButReplies (v o) (w o)) :
    statusPayload w p = statusPayload v p := by
  have items (o : StatusOwner) := (h o).items
  simp only [statusPayload, Engine.flagsByte, items]

/-- The two characters of a session (R164). -/
def sessionBytes : Option Session → List Byte
  | none => [0x00, 0x00]
  | some x =>
    [ BitVec.ofNat 8 (1 + 2 * flagBit x.endMark + 4 * x.slot + if x.row = .upper then 16 else 0)
    , BitVec.ofNat 8 x.pointer ]

theorem encodeSession_eq (x : Option Session) : encodeSession x = sessionBytes x := by
  cases x with
  | none => rfl
  | some x =>
    have hr : 16 * rowCode x.row = if x.row = .upper then 16 else 0 := by cases x.row <;> rfl
    simp only [encodeSession, sessionBytes, hr]
    rfl

theorem statusPayload_eq (v : StatusOwner → State) (p : Port) :
    statusPayload v p =
      [ 0x00
      , BitVec.ofNat 8 (deviceCode (v .device).device)
      , BitVec.ofNat 8 (levelCode (v .supervisor).supervisor.level)
      , BitVec.ofNat 8 (modeCode (v .beam).beam.mode)
      , BitVec.ofNat 8 (v .beam).beam.trim
      , BitVec.ofNat 8
          (flagBit (v .beam).beam.weather + 2 * flagBit (v .shades).shades.traffic +
            4 * flagBit (v .steering).steering.town)
      , BitVec.ofInt 8 (v .swivel).engine.swivel
      , BitVec.ofNat 8 (sourceCode (v .steering).steering.source)
      , BitVec.ofNat 8 (decoderCode (v .steering).steering.decoder)
      , BitVec.ofNat 8 (clockCode (v .clock).supervisor.clock.state)
      , BitVec.ofNat 8
          (flagBit (v .links).ports.vis.fresh + 2 * flagBit (v .links).ports.chs.fresh +
            4 * flagBit (v .links).ports.cab.fresh) ] ++
      wordBytes (BitVec.ofNat 16 (v .engine).engine.frameCount) ++
      wordBytes (BitVec.ofNat 16 (v .engine).engine.repeatCount) ++
      [ BitVec.ofNat 8 (v .engine).engine.consecRepeats
      , BitVec.ofNat 8 (v .engine).engine.riseLimited
      , BitVec.ofNat 8
          (flagBit (v .engine).engine.addSat + 2 * flagBit (v .engine).engine.swivelClip)
      , encodeSticky ((v .links).ports.get p).sticky ] ++
      (wordBytes (BitVec.ofNat 16 ((v .links).ports.get p).gapErrors) ++
        wordBytes (BitVec.ofNat 16 ((v .links).ports.get p).lengthErrors) ++
        wordBytes (BitVec.ofNat 16 ((v .links).ports.get p).crcErrors) ++
        wordBytes (BitVec.ofNat 16 ((v .links).ports.get p).dropped)) ++
      [BitVec.ofNat 8 (v .shades).shades.table.length] ++
      wordBytes (BitVec.ofNat 16 (v .shades).shades.ignored) ++
      wordBytes (BitVec.ofNat 16 (v .shades).shades.coalesced) ++
      wordBytes (BitVec.ofNat 16 (v .steering).steering.slips) ++
      sessionBytes (v .patterns).patterns.session := by
  simp only [← encode16_eq_wordBytes, ← encodeSession_eq]
  rfl

theorem length_sessionBytes (x : Option Session) : (sessionBytes x).length = 2 := by
  cases x <;> rfl

/-- Settles O56: the owners' states are chosen as the command itself leaves them, and the reply is read off them. -/
theorem statusReadGivesEveryItem : Obligations.StatusReadGivesEveryItem := by
  intro p tag s read hs hread
  have hcompleting : s.completing p = read := hread.symm
  choose v hsame hv using ownersRead_of_exec p s
  refine ⟨v, statusPayload v p, fun o => ?_, ?_, ?_, ?_, ?_, ?_, ?_, ?_, ?_⟩
  · rw [← hcompleting]
    refine (hv o).imp_right fun ⟨c, rest, hp, hc, he⟩ => ?_
    obtain ⟨hreset, hframe, hchar⟩ := comesWithRequest_cases hc
    exact ⟨c, rest, hp, hreset, hframe, hchar, he⟩
  · rw [statusPayload_congr p hsame]
    exact exec_of_serve (k := .statusRead) (f := ⟨tag, _, []⟩) rfl rfl hs rfl rfl rfl
  all_goals rw [statusPayload_eq]
  · simp [wordBytes, length_sessionBytes]
  · rfl
  · rfl
  · rfl
  · rfl
  · rfl
  · cases (v .patterns).patterns.session <;> rfl

end Sys2Proof.Machine
end

section
/-! PROOF. From the camera to the lamp (R8 to R15, R19, R71, R77 to R82, R105, R106): what a report with residual 0 covers is dark in the next frame. -/

namespace Sys2Proof.Machine

/-! ## A column that an entry of residual 0 covers -/

theorem entryResidual_of_covers {e : ShadeEntry} {c : Nat} (hv : e.veff = 0) (hl : e.left ≤ columnLeft c)
    (hr : columnLeft c + 4 ≤ e.right) : entryResidual e c = 0 := by
  have hcov : coverage e c = 4 := by
    unfold coverage
    omega
  rw [entryResidual, hv, hcov]

theorem residual_eq_zero {snapshot : List ShadeEntry} {e : ShadeEntry} {k : Side} {r : Row} {c : Nat}
    (he : e ∈ snapshot) (hrows : e.rows.includes r = true) (hlamps : e.lamps.includes k = true)
    (h0 : entryResidual e c = 0) : residual snapshot k r c = 0 := by
  obtain ⟨-, hall, -⟩ := residual_least snapshot _ k r c rfl
  have hpart := (takesPart_iff e k r).1 ⟨hrows, hlamps⟩
  have hle := hall e (List.mem_filter.2 ⟨he, decide_eq_true hpart⟩)
  omega

/-- In AUTO a segment of residual 0 is dark, whatever stands in the recipe and the ramp state. -/
theorem Latched.segment_output_of_residual {x : Latched} {k : Side} {r : Row} {c : Nat} (S : Int) (u : Nat)
    (hm : x.mode = .auto) (hr : residual x.snapshot k r c = 0) : (x.segment S k r c u).output = 0 := by
  have htarget : x.targetOutput S k r c = 0 := by
    simp [Latched.targetOutput, Latched.shaded, hm, hr, trimmed, widened]
  simp [Latched.segment, htarget]

theorem Latched.lampRamp_row (x : Latched) (S : Int) (k : Side) (u : TwoRows 48) (r : Row) {c : Nat}
    (hc : c < 48) : ((x.lampRamp S k u).row r)[c] = (x.segment S k r c (u.row r)[c]).output := by
  cases r <;> simp [Latched.lampRamp, TwoRows.row, Latched.rowSegments]

/-- A value placed by the wiring settings is found at the physical place of its segment (R81). -/
theorem valueAt_placeBank (reverse swap placement : Bool) (ramp : TwoRows 48) (r : Row) {c : Nat} (hc : c < 48) :
    ({ values := placeBank reverse swap ramp, placement := placement } : Bank).valueAt (mapRow swap r)
      (mapColumn reverse c) = (ramp.row r)[c] := by
  have hcol : mapColumn reverse c < 48 := by
    unfold mapColumn
    split <;> omega
  have hback : mapColumn reverse (mapColumn reverse c) = c := by
    cases reverse
    · rfl
    · show 47 - (47 - c) = c
      omega
  have hrow : (placeBank reverse swap ramp).row (mapRow swap r) = placeRow reverse (ramp.row r) := by
    cases swap <;> cases r <;> rfl
  rw [Bank.valueAt, hrow]
  simp [placeRow, hcol, hback, hc]

/-! ## The four commands, each by what the next one reads -/

/-- In RUN a list is merged; what the frame is composed from, but for the table, stays. -/
theorem exec_shadeList_shades {tag : Byte} {payload : List Byte} {s : State} {o : ShadeObject}
    (hcan : s.canTake .vis) (hrun : s.device = .run) (hmod : payload.length % 5 = 0) (h60 : payload.length ≤ 60)
    (ho : o ∈ (validateObjects [] (readObjects payload)).objects) :
    ∃ t, exec (.shadeList .vis tag payload) s = .next t ∧ t.resetn = s.resetn ∧ t.beam = s.beam ∧
      t.engine = s.engine ∧ t.output = s.output ∧ t.pending = s.pending ∧ ∃ e ∈ t.shades.table, e.shades o := by
  obtain ⟨waits, -, hmerged⟩ := shadeListIsMergedInRun tag payload s hcan hmod h60
  obtain ⟨hexec, -⟩ := hmerged _ rfl
  have hshaded := everyReportedRoadUserIsShaded s.params.holdFrames (readObjects payload) s.shades.table o ho
  refine ⟨_, hexec hrun _ rfl, ?_, ?_, ?_, ?_, ?_, hshaded⟩ <;>
    · simp only [State.answered, State.onPort_resetn, State.onPort_beam, State.onPort_engine,
        State.onPort_output, State.onPort_pending, State.marked_resetn, State.marked_beam,
        State.marked_engine, State.marked_output, State.marked_pending]
      split
      · rfl
      · split <;> simp

/-- A frame start in IDLE latches the ACTIVE entries, the mode and the lamps' settings. -/
theorem State.frameTimerExpiry_latches {s : State} {e : ShadeEntry} (htimer : s.engine.timer.isSome = true)
    (hflight : s.engine.flight = none) (he : e ∈ s.shades.table) (hactive : e.state = .active) :
    ∃ x, s.frameTimerExpiry.engine.flight = some x ∧ x.mode = s.beam.mode ∧ e ∈ x.snapshot ∧
      x.lamps = s.output.lamps.map Lamp.latched ∧
      s.frameTimerExpiry.output.lamps = s.output.lamps.map Lamp.latch := by
  obtain ⟨-, hbeam, -, hout, -, hshades, -⟩ := s.askOwners_after_keeps
  have haged : e ∈ s.serveSnapshot.shades.table := by
    rw [State.serveSnapshot_eq]
    exact List.mem_filterMap.2 ⟨e, he, by rw [ShadeEntry.age, hactive]⟩
  rw [State.frameTimerExpiry, if_pos htimer, State.frameStart_idle hflight]
  refine ⟨_, rfl, congrArg Beam.mode hbeam, ?_, congrArg (fun o => o.lamps.map Lamp.latched) hout, rfl⟩
  show e ∈ s.askOwners.after.shades.table
  rwa [hshades]

theorem Lamp.shadowBank_with_shadow (l : Lamp) (x : ShadowState) :
    { l with shadow := x }.shadowBank = l.shadowBank := by
  obtain ⟨_, _, _, _, active, _, _, _⟩ := l
  cases active <;> rfl

/-- A lamp that commits has its shadow COMPLETE with the composed values placed by the latched settings. -/
theorem State.lampAfter_of_latched {s : State} {x : Latched} {k : Side} {l : Lamp} (S : Int)
    (hlatched : x.lamps.get k = l.latched) (hlamp : s.output.lamps.get k = l.latch) (hen : l.enabled = true) :
    (s.lampAfter x S k).enabled = true ∧ (s.lampAfter x S k).shadow = .complete ∧
      (s.lampAfter x S k).shadowBank.values =
        placeBank l.colReverse l.rowSwap (x.lampRamp S k (s.engine.ramp.get k)) := by
  have hcommits : l.latched.commits = true := by
    simp [Lamp.latched, LatchedLamp.commits, hen]
  have henabled : l.latch.enabled = true := by
    simp [Lamp.latch, hen, Lamp.setShadowBank]
  generalize hramp : x.lampRamp S k (s.engine.ramp.get k) = ramp
  have hafter : s.lampAfter x S k =
      { l.latch.setShadowBank
          { l.latch.shadowBank with values := placeBank l.colReverse l.rowSwap ramp } with
        shadow := .complete } := by
    rw [State.lampAfter, hlamp, hlatched, hramp]
    exact if_pos hcommits
  rw [hafter]
  refine ⟨by simpa [Lamp.setShadowBank] using henabled, rfl, ?_⟩
  rw [Lamp.shadowBank_with_shadow, Lamp.shadowBank_setShadowBank]

/-- A terminal count puts a COMPLETE shadow on the lines (R105). -/
theorem Lamp.activeBank_swap {l : Lamp} (hen : l.enabled = true) (hs : l.shadow = .complete) :
    l.swap.activeBank = l.shadowBank := by
  rw [Lamp.swap, if_pos ⟨hen, hs⟩]
  rfl

/-- Settles O43: the entry that shades the object is ACTIVE, so the snapshot holds it; its residual 0 makes the segment's output 0, which the completion places and the terminal count shows. -/
theorem aReportedRoadUserIsDarkInTheNextFrame : Obligations.AReportedRoadUserIsDarkInTheNextFrame := by
  intro tag payload s o k r c l hpend hcan hrun hresetn htimer hflight hmode hmod h60 ho hv hrows hlamps hl hen hc
    hleft hright
  obtain ⟨t1, hexec1, hresetn1, hbeam1, hengine1, hout1, hpend1, e, he, hactive, hel, her, hev, herows, helamps⟩ :=
    exec_shadeList_shades (tag := tag)
      (s := { s with pending := [.frameStart, .compositionComplete, .terminalCount] }) hcan hrun hmod h60 ho
  obtain ⟨x, hx, hxmode, hmem, hxlamps, hlatch⟩ :=
    State.frameTimerExpiry_latches (s := { t1 with pending := [.compositionComplete, .terminalCount] })
      (e := e) (by rw [hengine1]; exact htimer) (by rw [hengine1]; exact hflight) he hactive
  generalize ht2 : State.frameTimerExpiry { t1 with pending := [.compositionComplete, .terminalCount] } = t2
    at hx hlatch
  obtain ⟨hresetn2, hpend2⟩ : t2.resetn = true ∧ t2.pending = [.compositionComplete, .terminalCount] := by
    rw [← ht2]
    simp [hresetn1, hresetn]
  have hzero : residual x.snapshot k r c = 0 :=
    residual_eq_zero hmem (herows r hrows) (helamps k hlamps)
      (entryResidual_of_covers (by omega) (hel.trans hleft) (hright.trans her))
  have hauto : x.mode = .auto := hxmode.trans ((congrArg Beam.mode hbeam1).trans hmode)
  have hlatched : x.lamps.get k = l.latched := by
    rw [hxlamps, PerSide.get_map, hl]
    exact congrArg (fun o : Output => (o.lamps.get k).latched) hout1
  have hlamp : t2.output.lamps.get k = l.latch := by
    rw [hlatch, PerSide.get_map, hl]
    exact congrArg (fun o : Output => (o.lamps.get k).latch) hout1
  generalize ht3 : State.completeComposition { t2 with pending := [.terminalCount] } = t3
  obtain ⟨hresetn3, hpend3⟩ : t3.resetn = true ∧ t3.pending = [.terminalCount] := by
    rw [← ht3]
    simp [hresetn2]
  obtain ⟨hen3, hcomplete3, hvalues3⟩ :
      (t3.output.lamps.get k).enabled = true ∧ (t3.output.lamps.get k).shadow = .complete ∧
        ∃ S u, (t3.output.lamps.get k).shadowBank.values =
          placeBank l.colReverse l.rowSwap (x.lampRamp S k u) := by
    rw [← ht3, State.completeComposition_lamps (s := { t2 with pending := [.terminalCount] }) hx]
    obtain ⟨h1, h2, h3⟩ := State.lampAfter_of_latched (s := { t2 with pending := [.terminalCount] }) _ hlatched
      hlamp hen
    exact ⟨h1, h2, _, _, h3⟩
  obtain ⟨S, u, hvalues⟩ := hvalues3
  refine ⟨State.terminalCount { t3 with pending := [] }, ?_, ?_⟩
  · rw [run_succ ((stepTakesTheFrontCommand s _ _ hpend).trans hexec1),
      run_succ ((stepTakesTheFrontCommand t1 _ _ hpend1).trans (congrArg Host.Outcome.next ht2)),
      run_succ ((stepTakesTheFrontCommand t2 _ _ hpend2).trans (congrArg Host.Outcome.next ht3)),
      run_succ (stepTakesTheFrontCommand t3 _ _ hpend3)]
    rfl
  · have hshown : ((State.terminalCount { t3 with pending := [] }).output.lamps.get k).activeBank =
        (t3.output.lamps.get k).shadowBank := by
      have hhigh : ¬t3.resetn = false := by simp [hresetn3]
      rw [State.terminalCount, if_neg hhigh]
      show ((t3.output.lamps.map Lamp.swap).get k).activeBank = _
      rw [PerSide.get_map, Lamp.activeBank_swap hen3 hcomplete3]
    have hbank : (t3.output.lamps.get k).shadowBank =
        { values := placeBank l.colReverse l.rowSwap (x.lampRamp S k u)
          placement := (t3.output.lamps.get k).shadowBank.placement } := by
      rw [← hvalues]
    rw [hshown, hbank, valueAt_placeBank _ _ _ _ _ hc, Latched.lampRamp_row _ _ _ _ _ hc,
      Latched.segment_output_of_residual _ _ hauto hzero]

end Sys2Proof.Machine
end
